-- ==== Sys2Proof/Word.lean ====
section
/-! DEFINITION. The word types: what the spec treats as bits, and byte sequences (R14, R15 of 00_scope.md). -/

namespace Sys2Proof

/-- 8 bits, an unsigned integer 0 to 255 (R14). -/
abbrev Byte := BitVec 8

/-- A byte sequence, first byte first (R15, R49). -/
abbrev Bytes := List Byte

/-- The 12-bit event selector `code(state) ‖ b` (R71). -/
abbrev Selector := BitVec 12

/-- `pos` and `target`: 17 bits, unsigned (R29). -/
abbrev Position := BitVec 17

/-- A 16-byte block or key, byte 0 in the most significant 8 bits (R36, R50, R129). -/
abbrev Block := BitVec 128

/-- A 4-byte word of the AES key schedule, byte 0 in the most significant 8 bits (R139). -/
abbrev Word32 := BitVec 32

/-- A sequence of characters: the `hex` operand of `KEYLOAD` (R119). -/
abbrev HexText := List Char

end Sys2Proof
end

