-- ==== Sys2Proof/Syntax.lean ====
section
/-! DEFINITION. The syntax: the framing states, and Instr with one constructor per row of spec/opcode_table.json. -/

namespace Sys2Proof

/-- The ten framing states, in the order of the source's list (R21 of 10_state.md). -/
inductive ParserState where
  | waitStart
  | readTitleLength
  | readTitle
  | readSep82
  | readPayloadLength
  | readSep30
  | readFrameCounter
  | readPayload
  | readGcmTag
  | done
  deriving DecidableEq, Repr

/-- How the host hands the AAD to a construction: as whole bytes, or as hex text that it decodes (R121;
log 8). -/
inductive AadOperand where
  | bytes (bs : Bytes)
  | hexText (cs : HexText)
  deriving DecidableEq, Repr

/-- The instructions: thirteen byte events (R72 of 30_encoding.md) and six host operations (R83). An event's `b` is
its input byte. A `handle` names a constructed Decryptor by its place in the order of construction (log 4). -/
inductive Instr where
  /-- `WS.START`, R89. -/
  | wsStart
  /-- `WS.SKIP`, R88. -/
  | wsSkip (b : Byte)
  /-- `RTL.SET`, R90. -/
  | rtlSet (b : Byte)
  /-- `RT.APPEND`, R91. -/
  | rtAppend (b : Byte)
  /-- `S82.OK`, R92. -/
  | s82Ok
  /-- `S82.BAD`, R93. -/
  | s82Bad (b : Byte)
  /-- `RPL.SHIFT`, R94. -/
  | rplShift (b : Byte)
  /-- `S30.OK`, R95. -/
  | s30Ok
  /-- `S30.BAD`, R96. -/
  | s30Bad (b : Byte)
  /-- `RFC.APPEND`, R97. -/
  | rfcAppend (b : Byte)
  /-- `RP.APPEND`, R98. -/
  | rpAppend (b : Byte)
  /-- `RGT.APPEND`, R99. -/
  | rgtAppend (b : Byte)
  /-- `DONE`, R100. -/
  | done
  /-- `RESET`, R187. -/
  | reset
  /-- `KEYLOAD`, R119 and R121. -/
  | keyload (hex : HexText) (aad : AadOperand)
  /-- `EXTRACT`, R108. -/
  | extract
  /-- `FORWARD`, R111. -/
  | forward
  /-- `DECRYPT`, R123. -/
  | decrypt (handle : Nat) (nonce cipherAndTag : Bytes)
  /-- `PIPELINE_STEP`, R156. The Decryptor of its configuration is named by `handle`. -/
  | pipelineStep (b : Byte) (handle : Nat)
  deriving DecidableEq, Repr

end Sys2Proof
end

