-- ==== Sys2Proof/Machine/State.lean ====
section
/-! DEFINITION. The state: all the spec gives one instance of the block (R20, R33 to R38, R45, R128), the model's own
fields, the fault and the refusals, and the state after reset (R42). -/

namespace Sys2Proof.Machine

/-- The sinks, the two values of `MODE` (R38). -/
inductive Sink where
  | decrypt
  | forward
  deriving DecidableEq, Repr

/-- The cause table (R164). -/
inductive Cause where
  | ok
  | badSep82
  | badSep30
  | lengthUnderflow
  | keyConfigurationError
  | authenticationError
  | transportError
  | nonceLength
  | inputTooShort
  | aadConfigurationError
  deriving DecidableEq, Repr

/-- A constructed Decryptor: its key, byte 0 in bits 127 to 120, and its additional authenticated data (R36, R37). -/
structure Decryptor where
  key : Block
  aad : Bytes
  deriving DecidableEq, Repr

/-- The DecryptionResult: the plaintext, the success flag and the status (R35, R123). -/
structure DecryptResult where
  plaintext : Bytes
  ok : Bool
  status : Cause
  deriving DecidableEq, Repr

/-- What the last host operation returned. -/
inductive HostResult where
  /-- The last step returned nothing but `ready` and `err`. -/
  | none
  /-- `KEYLOAD` constructed the Decryptor with this handle (R119). -/
  | constructed (handle : Nat)
  /-- `KEYLOAD` failed with this cause (R119, R121). -/
  | constructionFailed (cause : Cause)
  /-- `EXTRACT` (R108). -/
  | extracted (nonce cipherAndTag : Bytes)
  /-- `FORWARD` (R111). -/
  | forwarded (nonce payload authTag : Bytes)
  /-- `DECRYPT` (R123). -/
  | decrypted (r : DecryptResult)
  deriving DecidableEq, Repr

/-- What the environment gives the block between two invocations: a byte of the stream, a host operation, a choice of
`MODE`, or a failure of the Byte Source (R83, R159, R161, R191). -/
inductive Input where
  | byte (b : Byte)
  | reset
  | keyload (hex : HexText) (aad : AadOperand)
  | extract
  | forward
  | decrypt (handle : Nat) (nonce cipherAndTag : Bytes)
  | pipelineStep (b : Byte) (handle : Nat)
  | setMode (m : Sink)
  | transportError
  deriving DecidableEq, Repr

/-- One instance. The first nine fields are R20. `ready`, `err` and `result` are the results of the last step (R33,
R34; log 3). `decryptors` and `mode` are the configuration (R36 to R38; logs 4, 5). `lastDecrypt` is what the
Decryptor's outputs hold (R45, R128; log 6). `telegramValid` (R44; log 2) and `inputs` (R45, R83; log 1) are the
model's own. -/
structure State where
  state : ParserState
  titleLen : BitVec 8
  declaredLength : BitVec 16
  pos : Position
  target : Position
  systemTitle : Bytes
  frameCounter : Bytes
  payload : Bytes
  authTag : Bytes
  ready : Bool
  err : Cause
  result : HostResult
  decryptors : List Decryptor
  mode : Sink
  lastDecrypt : DecryptResult
  telegramValid : Bool
  inputs : List Input
  deriving DecidableEq, Repr

/-- How a run can stop. -/
inductive Fault where
  /-- Raised by a step that takes a failure of the Byte Source: the terminal result `TransportError` of the run (R159,
  R168). Safe: the spec itself ends the run there (log 13). -/
  | transportError
  deriving DecidableEq, Repr

/-- Why a step has no meaning (log 18). -/
inductive Refusal where
  /-- Raised by an arm of `exec` for an instruction that has no meaning yet. Safe: nothing is claimed of it. -/
  | notModelled (mnemonic : String)
  /-- Raised by `EXTRACT` and `FORWARD` outside the window in which the buffers hold a Telegram; the spec gives them
  no meaning there (R109, U4). Safe: the spec's own refusal. -/
  | noTelegram
  /-- Raised by `DECRYPT`, and by `PIPELINE_STEP` at a `ready` in Decrypt mode, when the Decryptor named was never
  constructed; the operation cannot be invoked (R115, R120, U5). Safe: the spec's own refusal. -/
  | noDecryptor
  /-- Raised by a step whose state code is one of the reserved 10 to 15 (R76, U6). Safe: the spec's own refusal; no
  `ParserState` has such a code. -/
  | reservedState (code : BitVec 4)
  deriving DecidableEq, Repr

/-- The instance right after reset (R42, where every run starts: log 23). `mode` and `lastDecrypt`: DESIGN CHOICE
(logs 5, 6); `result` and `inputs`: the model's own fields, nothing returned and nothing delivered yet (logs 3, 1). -/
def State.reset : State where
  state := .waitStart
  titleLen := 0
  declaredLength := 0
  pos := 0
  target := 0
  systemTitle := []
  frameCounter := []
  payload := []
  authTag := []
  ready := false
  err := .ok
  result := .none
  decryptors := []
  mode := .decrypt
  lastDecrypt := ⟨[], false, .ok⟩
  telegramValid := false
  inputs := []

end Sys2Proof.Machine
end

