-- ==== Sys2Proof/Machine/Flags.lean ====
section
/-! DEFINITION. Codes and flags: the cause codes, `ready`, `err`, `ok`, `status` and `MODE` as bits. -/

namespace Sys2Proof.Machine

/-- The cause codes (R164). -/
def Cause.code : Cause → BitVec 4
  | .ok => 0
  | .badSep82 => 1
  | .badSep30 => 2
  | .lengthUnderflow => 3
  | .keyConfigurationError => 4
  | .authenticationError => 5
  | .transportError => 6
  | .nonceLength => 7
  | .inputTooShort => 8
  | .aadConfigurationError => 9

/-- Whether a cause is one that an invocation of `feed` can report in `err` (R34, R164). -/
def Cause.isFeedResult : Cause → Bool
  | .ok => true
  | .badSep82 => true
  | .badSep30 => true
  | .lengthUnderflow => true
  | _ => false

/-- The bit of `MODE` (R38). -/
def Sink.bit : Sink → BitVec 1
  | .decrypt => 0
  | .forward => 1

/-- A successful `DECRYPT`: `ok` is true exactly when `status = OK` (R125). -/
def DecryptResult.success (plaintext : Bytes) : DecryptResult := ⟨plaintext, true, .ok⟩

/-- A failed `DECRYPT`: the plaintext has length 0 (R124). -/
def DecryptResult.failure (cause : Cause) : DecryptResult := ⟨[], false, cause⟩

end Sys2Proof.Machine
end

