-- ==== Sys2Proof/Machine/Constants.lean ====
section
/-! DEFINITION. The constants the source fixes (R11 of 00_scope.md) and the capacities that follow (R12, R20). -/

namespace Sys2Proof.Machine

/-- `START` (R11, R70). -/
abbrev startMarker : Byte := 0xDB

/-- `SEP82` (R11, R70). -/
abbrev sep82 : Byte := 0x82

/-- `SEP30` (R11, R70). -/
abbrev sep30 : Byte := 0x30

/-- `LEN_BYTES`: bytes of the payload length field (R11). -/
abbrev lenBytes : Nat := 2

/-- `FC_BYTES`: bytes of the frame counter (R11). -/
abbrev fcBytes : Nat := 4

/-- `TAG_BYTES`: bytes of the authentication tag (R11). -/
abbrev tagBytes : Nat := 12

/-- `OVERHEAD`: the constant subtracted from the declared length to size the payload (R11, R69). -/
abbrev overhead : Nat := 17

/-- `KEY_BYTES`: bytes of the symmetric key (R11). -/
abbrev keyBytes : Nat := 16

/-- `KEY_HEX_CHARS`: characters of the hex-encoded key (R11). -/
abbrev keyHexChars : Nat := 32

/-- The one nonce length `DECRYPT` accepts (R123, R126). -/
abbrev nonceBytes : Nat := 12

/-- The capacity of `systemTitle` (R12, R20). -/
abbrev titleCapacity : Nat := 255

/-- The capacity of `payload` and of the plaintext output (R12, R20, R45). -/
abbrev payloadCapacity : Nat := 65518

end Sys2Proof.Machine
end

