-- ==== Sys2Proof/Machine/Operands.lean ====
section
/-! DEFINITION. Operand assembly: the declared length, the target position, the sinks' operands, key and AAD text. -/

namespace Sys2Proof.Machine

/-- `((declaredLength << 8) | b) mod 2^16` (R68, R94). -/
def shiftInByte (len : BitVec 16) (b : Byte) : BitVec 16 := (len <<< 8) ||| b.setWidth 16

/-- `1 + b`, the target position after the title length byte (R90). -/
def titleTarget (b : Byte) : Position := BitVec.ofNat 17 (1 + b.toNat)

/-- `nonce = systemTitle ‖ frameCounter` (R108, R116). -/
def nonceOf (s : State) : Bytes := s.systemTitle ++ s.frameCounter

/-- `cipherAndTag = payload ‖ authTag` (R108). -/
def cipherAndTagOf (s : State) : Bytes := s.payload ++ s.authTag

/-- `cipherAndTag[0 .. len - 12]` (R122). -/
def cipherPart (cipherAndTag : Bytes) : Bytes := cipherAndTag.take (cipherAndTag.length - tagBytes)

/-- `cipherAndTag[len - 12 .. len]`, the trailing 12 bytes (R122). -/
def tagPart (cipherAndTag : Bytes) : Bytes := cipherAndTag.drop (cipherAndTag.length - tagBytes)

/-- `val`: `0`-`9` to 0-9, `A`-`F` and `a`-`f` to 10-15; no other character is a hex digit (R119;
log 16). -/
def hexValue (c : Char) : Option Nat :=
  if 0x30 ≤ c.toNat ∧ c.toNat ≤ 0x39 then some (c.toNat - 0x30)
  else if 0x41 ≤ c.toNat ∧ c.toNat ≤ 0x46 then some (c.toNat - 0x41 + 10)
  else if 0x61 ≤ c.toNat ∧ c.toNat ≤ 0x66 then some (c.toNat - 0x61 + 10)
  else none

/-- Whether a character is one of `0`-`9`, `A`-`F`, `a`-`f` (R119). -/
def isHexDigit (c : Char) : Bool := (hexValue c).isSome

/-- Two characters a byte, the first the high nibble; none for an odd number of characters or a character outside the
hex alphabet (R119, R121). -/
def hexDecode : HexText → Option Bytes
  | [] => some []
  | [_] => none
  | hi :: lo :: rest =>
    match hexValue hi, hexValue lo, hexDecode rest with
    | some h, some l, some bs => some (BitVec.ofNat 8 (16 * h + l) :: bs)
    | _, _, _ => none

/-- A byte sequence as a big-endian number of 128 bits: byte 0 of 16 in the most significant 8 bits (R36, R129). -/
def blockOfBytes (bs : Bytes) : Block := bs.foldl (fun acc b => (acc <<< 8) ||| b.setWidth 128) 0

/-- The key of a key text: exactly 32 characters, each a hex digit, else `KeyConfigurationError` (R119). -/
def keyOfText (hex : HexText) : Except Cause Block :=
  if hex.length ≠ keyHexChars then .error .keyConfigurationError
  else match hexDecode hex with
    | some bs => .ok (blockOfBytes bs)
    | none => .error .keyConfigurationError

/-- The AAD of its operand: whole bytes as they are; hex text by the key's rule, else `AadConfigurationError`
(R121). -/
def aadOf : AadOperand → Except Cause Bytes
  | .bytes bs => .ok bs
  | .hexText cs =>
    match hexDecode cs with
    | some bs => .ok bs
    | none => .error .aadConfigurationError

/-- The text of an AAD operand, for the free choice of log 7. -/
def aadTextOf : AadOperand → HexText
  | .bytes _ => []
  | .hexText cs => cs

end Sys2Proof.Machine
end

