-- ==== Sys2Proof/Machine/Ops.lean ====
section
/-! DEFINITION. The named operations on registers, buffers and results; the one entry of a framing error (R169) and
the passage through `Done` (R100) among them. -/

namespace Sys2Proof.Machine

/-- The results of the step: `ready`, `err` and what a host operation returned (R17, R33, R34; log 3). -/
def giveResults (ready : Bool) (err : Cause) (result : HostResult) (s : State) : State :=
  { s with ready := ready, err := err, result := result }

/-- `ready = false`, `err = 0`, nothing returned (R16). -/
def giveNothing (s : State) : State := giveResults false .ok .none s

/-- `state <- st` (R16). -/
def enter (st : ParserState) (s : State) : State := { s with state := st }

/-- `pos <- pos + 1` (R27). -/
def countByte (s : State) : State := { s with pos := s.pos + 1 }

/-- `target <- t` (R29). -/
def setTarget (t : Position) (s : State) : State := { s with target := t }

/-- `target <- target + n` (R29). -/
def advanceTarget (n : Nat) (s : State) : State := { s with target := s.target + BitVec.ofNat 17 n }

/-- `titleLen <- b` (R24). -/
def setTitleLen (b : Byte) (s : State) : State := { s with titleLen := b }

/-- `declaredLength <- len` (R25). -/
def setDeclaredLength (len : BitVec 16) (s : State) : State := { s with declaredLength := len }

/-- `systemTitle <- append(systemTitle, b)` (R30). -/
def appendTitle (b : Byte) (s : State) : State := { s with systemTitle := s.systemTitle ++ [b] }

/-- `frameCounter <- append(frameCounter, b)` (R30). -/
def appendCounter (b : Byte) (s : State) : State := { s with frameCounter := s.frameCounter ++ [b] }

/-- `payload <- append(payload, b)` (R30). -/
def appendPayload (b : Byte) (s : State) : State := { s with payload := s.payload ++ [b] }

/-- `authTag <- append(authTag, b)` (R30). -/
def appendTag (b : Byte) (s : State) : State := { s with authTag := s.authTag ++ [b] }

/-- What `WS.START` and `RESET` clear: every Telegram field and both position registers (R31, R187). The window of
R44 closes with it (log 2). -/
def clearTelegram (s : State) : State :=
  { s with
    systemTitle := [], frameCounter := [], payload := [], authTag := []
    titleLen := 0, declaredLength := 0, pos := 0, target := 0
    telegramValid := false }

/-- `raise FramingError(cause)`, the one entry of the framing errors: `err <- cause`, `state <- WaitStart`, `ready <-
false`, and nothing else written (R169). There is no return operation: the machine resumes from `WaitStart` (R172). -/
def raiseFramingError (cause : Cause) (s : State) : State :=
  enter .waitStart (giveResults false cause .none s)

/-- The passage through `Done`: `state <- WaitStart`, `ready <- true`; every Telegram field keeps the completed frame
(R100, R31), so the window of R44 opens (log 2). -/
def deliver (s : State) : State :=
  { enter .waitStart (giveResults true .ok .none s) with telegramValid := true }

/-- A finished `DECRYPT`: the Decryptor's outputs hold the result until the next one (R45, R128). A plaintext
beyond the capacity of R45 is held whole: DESIGN CHOICE (log 25). -/
def holdDecryption (r : DecryptResult) (s : State) : State := { s with lastDecrypt := r }

/-- A constructed Decryptor joins those that exist; none of them is changed (R36, R118; log 4). -/
def addDecryptor (d : Decryptor) (s : State) : State := { s with decryptors := s.decryptors ++ [d] }

/-- The host's choice of `MODE` (R38, R191, R201). -/
def setMode (m : Sink) (s : State) : State := { giveNothing s with mode := m }

/-- The inputs that remain when one is taken (R46; log 1). -/
def withInputs (rest : List Input) (s : State) : State := { s with inputs := rest }

/-- A step with no input: no state changes and no output event happens (R10, R158; log 14). -/
def idle (s : State) : State := giveNothing s

end Sys2Proof.Machine
end

