-- ==== Sys2Proof/Machine/Assembler.lean ====
section
/-! DEFINITION. The thirteen byte events (sections 2 to 9 of 40_frame_assembler.md) and `feed` (R87). An event is
selected by (`state`, byte); its effect does not read `state` again (log 10). A counting event compares the count after
its byte, `s.pos + 1`, with the target before it (R74, R102). -/

namespace Sys2Proof.Machine

/-- `WS.START` (R89). -/
def wsStartNext (s : State) : State := enter .readTitleLength (clearTelegram (giveNothing s))

/-- `WS.SKIP` (R88). -/
def wsSkipNext (s : State) : State := giveNothing s

/-- `RTL.SET` (R90); an empty title passes `ReadTitle` over (R80). -/
def rtlSetNext (b : Byte) (s : State) : State :=
  let t := setTarget (titleTarget b) (setTitleLen b (countByte (giveNothing s)))
  if b = 0 then enter .readSep82 t else enter .readTitle t

/-- `RT.APPEND` (R91). -/
def rtAppendNext (b : Byte) (s : State) : State :=
  let t := appendTitle b (countByte (giveNothing s))
  if s.pos + 1 = s.target then enter .readSep82 t else t

/-- `S82.OK` (R92). -/
def s82OkNext (s : State) : State := enter .readPayloadLength (advanceTarget lenBytes (giveNothing s))

/-- `S82.BAD` (R93). -/
def s82BadNext (s : State) : State := raiseFramingError .badSep82 s

/-- `RPL.SHIFT` (R94). -/
def rplShiftNext (b : Byte) (s : State) : State :=
  let t := setDeclaredLength (shiftInByte s.declaredLength b) (countByte (giveNothing s))
  if s.pos + 1 = s.target then enter .readSep30 t else t

/-- `S30.OK` (R95). -/
def s30OkNext (s : State) : State := enter .readFrameCounter (advanceTarget fcBytes (giveNothing s))

/-- `S30.BAD` (R96). -/
def s30BadNext (s : State) : State := raiseFramingError .badSep30 s

/-- What `RFC.APPEND` does after the fourth byte: it sizes the payload (R69, R97). A declared length below 17 is a
framing error (R79), one of 17 passes `ReadPayload` over (R80). -/
def sizePayload (s : State) : State :=
  if s.declaredLength.toNat < overhead then raiseFramingError .lengthUnderflow s
  else if s.declaredLength.toNat = overhead then enter .readGcmTag (advanceTarget tagBytes s)
  else enter .readPayload (advanceTarget (s.declaredLength.toNat - overhead) s)

/-- `RFC.APPEND` (R97). -/
def rfcAppendNext (b : Byte) (s : State) : State :=
  let t := appendCounter b (countByte (giveNothing s))
  if s.pos + 1 = s.target then sizePayload t else t

/-- `RP.APPEND` (R98). -/
def rpAppendNext (b : Byte) (s : State) : State :=
  let t := appendPayload b (countByte (giveNothing s))
  if s.pos + 1 = s.target then enter .readGcmTag (advanceTarget tagBytes t) else t

/-- `RGT.APPEND` (R99). -/
def rgtAppendNext (b : Byte) (s : State) : State :=
  let t := appendTag b (countByte (giveNothing s))
  if s.pos + 1 = s.target then enter .done t else t

/-- `DONE` (R100). -/
def doneNext (s : State) : State := deliver s

/-- `WS.START` (R89). -/
def execWsStart (s : State) : Host.Outcome State Fault Refusal := .next (wsStartNext s)

/-- `WS.SKIP`: `b` is ignored (R88). -/
def execWsSkip (_b : Byte) (s : State) : Host.Outcome State Fault Refusal := .next (wsSkipNext s)

/-- `RTL.SET` (R90). -/
def execRtlSet (b : Byte) (s : State) : Host.Outcome State Fault Refusal := .next (rtlSetNext b s)

/-- `RT.APPEND` (R91). -/
def execRtAppend (b : Byte) (s : State) : Host.Outcome State Fault Refusal := .next (rtAppendNext b s)

/-- `S82.OK` (R92). -/
def execS82Ok (s : State) : Host.Outcome State Fault Refusal := .next (s82OkNext s)

/-- `S82.BAD`: the offending byte is discarded (R93). -/
def execS82Bad (_b : Byte) (s : State) : Host.Outcome State Fault Refusal := .next (s82BadNext s)

/-- `RPL.SHIFT` (R94). -/
def execRplShift (b : Byte) (s : State) : Host.Outcome State Fault Refusal := .next (rplShiftNext b s)

/-- `S30.OK` (R95). -/
def execS30Ok (s : State) : Host.Outcome State Fault Refusal := .next (s30OkNext s)

/-- `S30.BAD`: the offending byte is discarded (R96). -/
def execS30Bad (_b : Byte) (s : State) : Host.Outcome State Fault Refusal := .next (s30BadNext s)

/-- `RFC.APPEND` (R97). -/
def execRfcAppend (b : Byte) (s : State) : Host.Outcome State Fault Refusal := .next (rfcAppendNext b s)

/-- `RP.APPEND` (R98). -/
def execRpAppend (b : Byte) (s : State) : Host.Outcome State Fault Refusal := .next (rpAppendNext b s)

/-- `RGT.APPEND` (R99). -/
def execRgtAppend (b : Byte) (s : State) : Host.Outcome State Fault Refusal := .next (rgtAppendNext b s)

/-- `DONE` (R100). -/
def execDone (s : State) : Host.Outcome State Fault Refusal := .next (doneNext s)

/-- The one event that the state and the byte select (R72, R73). In `Done`, where no byte is ever fed (R23), it is
`DONE` (log 9). -/
def eventNext (b : Byte) (s : State) : State :=
  match s.state with
  | .waitStart => if b = startMarker then wsStartNext s else wsSkipNext s
  | .readTitleLength => rtlSetNext b s
  | .readTitle => rtAppendNext b s
  | .readSep82 => if b = sep82 then s82OkNext s else s82BadNext s
  | .readPayloadLength => rplShiftNext b s
  | .readSep30 => if b = sep30 then s30OkNext s else s30BadNext s
  | .readFrameCounter => rfcAppendNext b s
  | .readPayload => rpAppendNext b s
  | .readGcmTag => rgtAppendNext b s
  | .done => doneNext s

/-- The end of an invocation: the `DONE` step if and only if the event left `state = Done` (R87). -/
def finishNext (s : State) : State := if s.state = .done then doneNext s else s

/-- `feed(byte)`: one event, then the `DONE` step if it is due; total (R87). -/
def feed (b : Byte) (s : State) : State := finishNext (eventNext b s)

/-- The end of an invocation whose event was run by the dispatch (R87). -/
def completeInvocation : Host.Outcome State Fault Refusal → Host.Outcome State Fault Refusal
  | .next t => .next (finishNext t)
  | .fault r => .fault r
  | .refused r => .refused r

end Sys2Proof.Machine
end

