-- ==== Sys2Proof/Config.lean ====
section
/-! DEFINITION. The free values: what the spec leaves open and no rule fixes. Nothing in Lean can evaluate them. -/

namespace Sys2Proof

/-- The ports and read ports whose data the spec leaves at any value, or gives none for, in some states: the Telegram
ports outside their window (R43, R44; U4 of 93_implementation_defined.md), the read port of the AAD beyond `AAD_LEN`
(R128), and the plaintext ports for a plaintext beyond the capacity of R45 (log 25). -/
inductive PortName where
  | titleLen
  | titleRdData
  | declaredLength
  | frameCounter
  | payloadLen
  | payloadRdData
  | authTag
  | aadRdData
  | ptLen
  | ptRdData
  deriving DecidableEq, Repr

/-- What a `w`-bit port carries where the spec says any value or gives none: a value for each port, read index and
clock cycle. DESIGN CHOICE (logs 15, 25): the form only; the value is free. -/
opaque Config.unspecifiedPort (w : Nat) (port : PortName) (index cycle : Nat) : BitVec w

/-- When a `KEYLOAD` has both an invalid key text (first argument) and an invalid AAD text (second argument), whether
the AAD's error is the one reported. The spec gives no order. DESIGN CHOICE (log 7): the form only; the value is
free. -/
opaque Config.aadErrorReported (keyText aadText : HexText) : Bool

/-- The pre-counter block of GCM for an `IV` that is not of 12 bytes, which the spec does not reproduce and which must
not be assumed (R147, R153). DESIGN CHOICE (log 26): the form only; the value is free. -/
opaque Config.otherPreCounter (iv : Bytes) : Block

end Sys2Proof
end

