-- ==== Sys2Proof/Machine/Aes.lean ====
section
/-! DEFINITION. AES with a 128-bit key, forward cipher only (section 2 of 43_aes_gcm_reference.md). PRESUMED by the
spec itself (its rules R129 to R142 are marked as general knowledge); taken as the definition (log 11). -/

namespace Sys2Proof.Machine

/-- `X[i]`, byte `i` of a block (R129). -/
def blockByte (X : Block) (i : Nat) : Byte := X.extractLsb' (8 * (15 - i)) 8

/-- The block whose byte `i` is `f i` (R129). -/
def blockOf (f : Nat → Byte) : Block := blockOfBytes ((List.range 16).map f)

/-- The 16 bytes of a block, byte 0 first (R129). -/
def blockBytes (X : Block) : Bytes := (List.range 16).map (blockByte X)

/-- `xtime(a)`: multiplication by `x` in GF(2^8) (R130). -/
def xtime (a : Byte) : Byte := if a.getLsbD 7 then (a <<< 1) ^^^ 0x1B else a <<< 1

/-- `xtime^i(a)` (R130). -/
def xtimes : Nat → Byte → Byte
  | 0, a => a
  | i + 1, a => xtimes i (xtime a)

/-- The product `a • b`: the exclusive-or of `xtime^i(a)` over all `i` with `b[i] = 1` (R130). -/
def gfMul (a b : Byte) : Byte :=
  (List.range 8).foldl (fun acc i => if b.getLsbD i then acc ^^^ xtimes i a else acc) 0

/-- `inv(a)`, which is `a` raised to the power 254 = 2 + 4 + 8 + 16 + 32 + 64 + 128 (R131). -/
def gfInv (a : Byte) : Byte :=
  let a2 := gfMul a a
  let a4 := gfMul a2 a2
  let a8 := gfMul a4 a4
  let a16 := gfMul a8 a8
  let a32 := gfMul a16 a16
  let a64 := gfMul a32 a32
  let a128 := gfMul a64 a64
  gfMul a2 (gfMul a4 (gfMul a8 (gfMul a16 (gfMul a32 (gfMul a64 a128)))))

/-- `S(a)` by its definition: bit `i` is `c[i] ⊕ c[i+4] ⊕ c[i+5] ⊕ c[i+6] ⊕ c[i+7] ⊕ k[i]`, the indices modulo 8,
with `c = inv(a)` and `k = 0x63` (R132). -/
def sboxByRule (a : Byte) : Byte :=
  let c := gfInv a
  c ^^^ c.rotateRight 4 ^^^ c.rotateRight 5 ^^^ c.rotateRight 6 ^^^ c.rotateRight 7 ^^^ 0x63

/-- The S-box as a table: the row is the high nibble of the argument, the column the low nibble (R133). -/
def sboxTable : List (List Nat) :=
  [ [0x63, 0x7C, 0x77, 0x7B, 0xF2, 0x6B, 0x6F, 0xC5, 0x30, 0x01, 0x67, 0x2B, 0xFE, 0xD7, 0xAB, 0x76],
    [0xCA, 0x82, 0xC9, 0x7D, 0xFA, 0x59, 0x47, 0xF0, 0xAD, 0xD4, 0xA2, 0xAF, 0x9C, 0xA4, 0x72, 0xC0],
    [0xB7, 0xFD, 0x93, 0x26, 0x36, 0x3F, 0xF7, 0xCC, 0x34, 0xA5, 0xE5, 0xF1, 0x71, 0xD8, 0x31, 0x15],
    [0x04, 0xC7, 0x23, 0xC3, 0x18, 0x96, 0x05, 0x9A, 0x07, 0x12, 0x80, 0xE2, 0xEB, 0x27, 0xB2, 0x75],
    [0x09, 0x83, 0x2C, 0x1A, 0x1B, 0x6E, 0x5A, 0xA0, 0x52, 0x3B, 0xD6, 0xB3, 0x29, 0xE3, 0x2F, 0x84],
    [0x53, 0xD1, 0x00, 0xED, 0x20, 0xFC, 0xB1, 0x5B, 0x6A, 0xCB, 0xBE, 0x39, 0x4A, 0x4C, 0x58, 0xCF],
    [0xD0, 0xEF, 0xAA, 0xFB, 0x43, 0x4D, 0x33, 0x85, 0x45, 0xF9, 0x02, 0x7F, 0x50, 0x3C, 0x9F, 0xA8],
    [0x51, 0xA3, 0x40, 0x8F, 0x92, 0x9D, 0x38, 0xF5, 0xBC, 0xB6, 0xDA, 0x21, 0x10, 0xFF, 0xF3, 0xD2],
    [0xCD, 0x0C, 0x13, 0xEC, 0x5F, 0x97, 0x44, 0x17, 0xC4, 0xA7, 0x7E, 0x3D, 0x64, 0x5D, 0x19, 0x73],
    [0x60, 0x81, 0x4F, 0xDC, 0x22, 0x2A, 0x90, 0x88, 0x46, 0xEE, 0xB8, 0x14, 0xDE, 0x5E, 0x0B, 0xDB],
    [0xE0, 0x32, 0x3A, 0x0A, 0x49, 0x06, 0x24, 0x5C, 0xC2, 0xD3, 0xAC, 0x62, 0x91, 0x95, 0xE4, 0x79],
    [0xE7, 0xC8, 0x37, 0x6D, 0x8D, 0xD5, 0x4E, 0xA9, 0x6C, 0x56, 0xF4, 0xEA, 0x65, 0x7A, 0xAE, 0x08],
    [0xBA, 0x78, 0x25, 0x2E, 0x1C, 0xA6, 0xB4, 0xC6, 0xE8, 0xDD, 0x74, 0x1F, 0x4B, 0xBD, 0x8B, 0x8A],
    [0x70, 0x3E, 0xB5, 0x66, 0x48, 0x03, 0xF6, 0x0E, 0x61, 0x35, 0x57, 0xB9, 0x86, 0xC1, 0x1D, 0x9E],
    [0xE1, 0xF8, 0x98, 0x11, 0x69, 0xD9, 0x8E, 0x94, 0x9B, 0x1E, 0x87, 0xE9, 0xCE, 0x55, 0x28, 0xDF],
    [0x8C, 0xA1, 0x89, 0x0D, 0xBF, 0xE6, 0x42, 0x68, 0x41, 0x99, 0x2D, 0x0F, 0xB0, 0x54, 0xBB, 0x16] ]

/-- `S(a)` (R133). -/
def sbox (a : Byte) : Byte := BitVec.ofNat 8 ((sboxTable.getD (a.toNat / 16) []).getD (a.toNat % 16) 0)

/-- `SubBytes` (R135). -/
def subBytes (s : Block) : Block := blockOf fun i => sbox (blockByte s i)

/-- `ShiftRows`: byte `r + 4c` becomes byte `r + 4((c + r) mod 4)`, with `r = i mod 4` and `c = i div 4` (R134,
R136). -/
def shiftRows (s : Block) : Block := blockOf fun i => blockByte s (i % 4 + 4 * ((i / 4 + i % 4) % 4))

/-- One column of `MixColumns` (R137): `2 • a` is `xtime(a)` and `3 • a` is `xtime(a) ⊕ a` (R130). -/
def mixColumn (a0 a1 a2 a3 : Byte) (row : Nat) : Byte :=
  match row with
  | 0 => xtime a0 ^^^ (xtime a1 ^^^ a1) ^^^ a2 ^^^ a3
  | 1 => a0 ^^^ xtime a1 ^^^ (xtime a2 ^^^ a2) ^^^ a3
  | 2 => a0 ^^^ a1 ^^^ xtime a2 ^^^ (xtime a3 ^^^ a3)
  | _ => (xtime a0 ^^^ a0) ^^^ a1 ^^^ a2 ^^^ xtime a3

/-- `MixColumns` (R137). -/
def mixColumns (s : Block) : Block :=
  blockOf fun i =>
    let c := i / 4
    mixColumn (blockByte s (4 * c)) (blockByte s (4 * c + 1)) (blockByte s (4 * c + 2)) (blockByte s (4 * c + 3)) (i % 4)

/-- Word `i` of a block: bytes `4i` to `4i + 3` (R139). -/
def blockWord (X : Block) (i : Nat) : Word32 := X.extractLsb' (32 * (3 - i)) 32

/-- `RotWord(a, b, c, d) = (b, c, d, a)` (R139). -/
def rotWord (w : Word32) : Word32 := w.rotateLeft 8

/-- `SubWord`: `S` on each byte (R139). -/
def subWord (w : Word32) : Word32 :=
  sbox (w.extractLsb' 24 8) ++ sbox (w.extractLsb' 16 8) ++ sbox (w.extractLsb' 8 8) ++ sbox (w.extractLsb' 0 8)

/-- The round key `w[4j + 4] .. w[4j + 7]` from `w[4j] .. w[4j + 3]` and `Rcon[j + 1]` (R139). -/
def nextRoundKey (k : Block) (rcon : Byte) : Block :=
  let w4 := blockWord k 0 ^^^ (subWord (rotWord (blockWord k 3)) ^^^ (rcon ++ 0#24))
  let w5 := blockWord k 1 ^^^ w4
  let w6 := blockWord k 2 ^^^ w5
  let w7 := blockWord k 3 ^^^ w6
  w4 ++ w5 ++ w6 ++ w7

/-- A round key and the `n` after it; `Rcon[j + 1] = xtime(Rcon[j])` (R139). -/
def roundKeysFrom : Nat → Block → Byte → List Block
  | 0, k, _ => [k]
  | n + 1, k, rcon => k :: roundKeysFrom n (nextRoundKey k rcon) (xtime rcon)

/-- The eleven round keys of the key schedule; `Rcon[1] = 01` (R139). -/
def keySchedule (K : Block) : List Block := roundKeysFrom 10 K 0x01

/-- The rounds after the first key addition: the last has no `MixColumns` (R138, R140). -/
def aesRounds : List Block → Block → Block
  | [], s => s
  | [k], s => shiftRows (subBytes s) ^^^ k
  | k :: k' :: ks, s => aesRounds (k' :: ks) (mixColumns (shiftRows (subBytes s)) ^^^ k)

/-- `AES128_ENC(K, X)` (R140). -/
def aes128Enc (K X : Block) : Block :=
  match keySchedule K with
  | [] => X
  | k :: ks => aesRounds ks (X ^^^ k)

end Sys2Proof.Machine
end

