-- ==== Sys2Proof/Machine/Gcm.lean ====
section
/-! DEFINITION. GCM with 12-byte nonces and 12-byte tags (section 3 of 43_aes_gcm_reference.md); log 11. -/

namespace Sys2Proof.Machine

/-- The constant `R`, the block `E1 00 .. 00` (R143). -/
def gcmR : Block := 0xE1#8 ++ 0#120

/-- One turn of the block multiplication, on `(Z, V)` at bit `i` of `X`, bit 0 the most significant (R129, R143). -/
def gcmMulTurn (X : Block) (zv : Block × Block) (i : Nat) : Block × Block :=
  (if X.getMsbD i then zv.1 ^^^ zv.2 else zv.1,
   if zv.2.getMsbD 127 then (zv.2 >>> 1) ^^^ gcmR else zv.2 >>> 1)

/-- `X · Y` in GF(2^128) (R143). -/
def gcmMul (X Y : Block) : Block := ((List.range 128).foldl (gcmMulTurn X) (0, Y)).1

/-- `GHASH` over the first `n` blocks of a byte string, from the running value `Y` (R144). -/
def ghashFrom (H : Block) : Nat → Block → Bytes → Block
  | 0, Y, _ => Y
  | n + 1, Y, X => ghashFrom H n (gcmMul (Y ^^^ blockOfBytes (X.take 16)) H) (X.drop 16)

/-- `GHASH_H(X)` for a byte string whose length is a multiple of 16 (R144). -/
def ghash (H : Block) (X : Bytes) : Block := ghashFrom H (X.length / 16) 0 X

/-- `inc32(X)`: 1 is added modulo `2^32` to the last 4 bytes (R145). -/
def inc32 (X : Block) : Block := X.extractLsb' 32 96 ++ (X.extractLsb' 0 32 + 1)

/-- Bytewise exclusive-or, as long as the shorter operand (R129, R146). -/
def xorBytes (a b : Bytes) : Bytes := List.zipWith (· ^^^ ·) a b

/-- `GCTR` from the counter block `cb`, over at most `n` blocks (R146). -/
def gctrFrom (K : Block) : Nat → Block → Bytes → Bytes
  | 0, _, _ => []
  | n + 1, cb, X => xorBytes (X.take 16) (blockBytes (aes128Enc K cb)) ++ gctrFrom K n (inc32 cb) (X.drop 16)

/-- `GCTR_K(ICB, X)`: as long as `X`; the last block may be short (R146). -/
def gctr (K icb : Block) (X : Bytes) : Bytes := gctrFrom K ((X.length + 15) / 16) icb X

/-- `H = AES128_ENC(K, 0^128)` (R147). -/
def hashSubkey (K : Block) : Block := aes128Enc K 0

/-- `J0 = IV ‖ 00 00 00 01` for a 12-byte `IV` (R147). For another length, which `DECRYPT` never passes on (R126), the
spec gives no block, and it is a free value: DESIGN CHOICE (log 26). -/
def preCounter (iv : Bytes) : Block :=
  if iv.length = nonceBytes then blockOfBytes (iv ++ [0x00, 0x00, 0x00, 0x01]) else Config.otherPreCounter iv

/-- `pad(X)`: the fewest zero bytes that make the length a multiple of 16 (R148). -/
def pad16 (X : Bytes) : Bytes := X ++ List.replicate ((16 - X.length % 16) % 16) 0

/-- `[8 * len(X)]_64`, the length in bits as 8 bytes, big-endian (R148; log 12). -/
def bitLength64 (X : Bytes) : Bytes :=
  (List.range 8).map fun i => BitVec.ofNat 8 ((8 * X.length) >>> (8 * (7 - i)))

/-- The byte string that `GCM-TAG` hashes (R148). -/
def ghashInput (A C : Bytes) : Bytes := pad16 A ++ pad16 C ++ bitLength64 A ++ bitLength64 C

/-- `GCM-TAG(K, IV, A, C)`: 12 bytes (R148). -/
def gcmTag (K : Block) (iv A C : Bytes) : Bytes :=
  (gctr K (preCounter iv) (blockBytes (ghash (hashSubkey K) (ghashInput A C)))).take tagBytes

/-- `GCM-AE(K, IV, A, P)`: builds test frames; not an operation of the hardware (R150). -/
def gcmAe (K : Block) (iv A P : Bytes) : Bytes × Bytes :=
  let C := gctr K (inc32 (preCounter iv)) P
  (C, gcmTag K iv A C)

/-- `GCM-AD(K, IV, A, C, T)`: all 12 bytes of the tag are compared, and the plaintext is released only after the
comparison has passed (R151, R124). It is defined for a 12-byte `IV` and `T`; elsewhere see log 26. -/
def gcmAd (K : Block) (iv A C T : Bytes) : Option Bytes :=
  if gcmTag K iv A C = T then some (gctr K (inc32 (preCounter iv)) C) else none

end Sys2Proof.Machine
end

