-- ==== Sys2Proof/Machine/Decryptor.lean ====
section
/-! DEFINITION. The Authenticated Decryptor: its construction and its one operation (42_decryptor.md). -/

namespace Sys2Proof.Machine

/-- A construction: a Decryptor, or the cause of its failure (R119, R121). Which of two failures is reported is a
free value (log 7). -/
def construct (hex : HexText) (aad : AadOperand) : Except Cause Decryptor :=
  match keyOfText hex, aadOf aad with
  | .ok k, .ok a => .ok ⟨k, a⟩
  | .error c, .ok _ => .error c
  | .ok _, .error c => .error c
  | .error ck, .error ca => .error (if Config.aadErrorReported hex (aadTextOf aad) then ca else ck)

/-- `KEYLOAD` (R119): a success adds a Decryptor, with the next handle; a failure leaves no Decryptor of its own
(R120) and changes no state (R171). -/
def execKeyload (hex : HexText) (aad : AadOperand) (s : State) : Host.Outcome State Fault Refusal :=
  match construct hex aad with
  | .ok d => .next (addDecryptor d (giveResults false .ok (.constructed s.decryptors.length) s))
  | .error c => .next (giveResults false .ok (.constructionFailed c) s)

/-- What `DECRYPT` computes, its checks in the order written (R123, R175). -/
def decryptWith (d : Decryptor) (nonce cipherAndTag : Bytes) : DecryptResult :=
  if cipherAndTag.length < tagBytes then .failure .inputTooShort
  else if nonce.length ≠ nonceBytes then .failure .nonceLength
  else match gcmAd d.key nonce d.aad (cipherPart cipherAndTag) (tagPart cipherAndTag) with
    | some p => .success p
    | none => .failure .authenticationError

/-- `DECRYPT` (R123) on the Decryptor with this handle, in one step (log 21). Until a construction has succeeded no
Decryptor exists and the operation cannot be invoked (R115, R120). -/
def execDecrypt (handle : Nat) (nonce cipherAndTag : Bytes) (s : State) : Host.Outcome State Fault Refusal :=
  match s.decryptors[handle]? with
  | some d =>
    let r := decryptWith d nonce cipherAndTag
    .next (holdDecryption r (giveResults false .ok (.decrypted r) s))
  | none => .refused .noDecryptor

end Sys2Proof.Machine
end

