-- ==== Sys2Proof/Machine/Sinks.lean ====
section
/-! DEFINITION. The Component Extractor and the Cipher Forwarder (41_extractor_forwarder.md). -/

namespace Sys2Proof.Machine

/-- What `EXTRACT` returns: `(nonce, cipherAndTag)` (R108). -/
def extraction (s : State) : HostResult := .extracted (nonceOf s) (cipherAndTagOf s)

/-- What `FORWARD` returns: `(nonce, payload, authTag)` (R111). -/
def forwarding (s : State) : HostResult := .forwarded (nonceOf s) s.payload s.authTag

/-- `EXTRACT` (R108): defined while the buffers hold a Telegram, refused otherwise (R109). It writes no state of the
assembler (R113). -/
def execExtract (s : State) : Host.Outcome State Fault Refusal :=
  if s.telegramValid then .next (giveResults false .ok (extraction s) s) else .refused .noTelegram

/-- `FORWARD` (R111), in the same window as `EXTRACT` (R109). -/
def execForward (s : State) : Host.Outcome State Fault Refusal :=
  if s.telegramValid then .next (giveResults false .ok (forwarding s) s) else .refused .noTelegram

end Sys2Proof.Machine
end

