-- ==== Sys2Proof/Machine/ReaderLoop.lean ====
section
/-! DEFINITION. `PIPELINE_STEP`, the composite of `feed` and the sink that `MODE` selects (44_reader_loop.md). -/

namespace Sys2Proof.Machine

/-- The sink of a frame that has just completed (R114, R155, R156). `MODE` is read here and at no other time (R38). In
Decrypt mode the Decryptor must have been constructed; the host cannot reach the other case (R120, R156). -/
def runSink (handle : Nat) (s : State) : Host.Outcome State Fault Refusal :=
  match s.mode with
  | .forward => .next (giveResults s.ready s.err (forwarding s) s)
  | .decrypt =>
    match s.decryptors[handle]? with
    | some d =>
      let r := decryptWith d (nonceOf s) (cipherAndTagOf s)
      .next (holdDecryption r (giveResults s.ready s.err (.decrypted r) s))
    | none => .refused .noDecryptor

/-- `PIPELINE_STEP` (R156; log 22). -/
def execPipelineStep (b : Byte) (handle : Nat) (s : State) : Host.Outcome State Fault Refusal :=
  let t := feed b s
  if t.ready then runSink handle t else .next t

end Sys2Proof.Machine
end

