-- ==== Sys2Proof/Machine/Reset.lean ====
section
/-! DEFINITION. `RESET` (section 1 of 70_reset_and_hazards.md). -/

namespace Sys2Proof.Machine

/-- `RESET` (R187): the assembler in its initial state, with `ready = false` and `err = 0` after it. A constructed
Decryptor, `MODE` and what stands outside the instance are not touched (R188). -/
def execReset (s : State) : Host.Outcome State Fault Refusal :=
  .next (enter .waitStart (clearTelegram (giveNothing s)))

end Sys2Proof.Machine
end

