-- ==== Sys2Proof/Machine/Dispatch.lean ====
section
/-! DEFINITION. One arm per instruction. -/

namespace Sys2Proof.Machine

/-- The meaning of an instruction. -/
def exec (i : Instr) (s : State) : Host.Outcome State Fault Refusal :=
  match i with
  | .wsStart => Sys2Proof.Machine.execWsStart s
  | .wsSkip b => Sys2Proof.Machine.execWsSkip b s
  | .rtlSet b => Sys2Proof.Machine.execRtlSet b s
  | .rtAppend b => Sys2Proof.Machine.execRtAppend b s
  | .s82Ok => Sys2Proof.Machine.execS82Ok s
  | .s82Bad b => Sys2Proof.Machine.execS82Bad b s
  | .rplShift b => Sys2Proof.Machine.execRplShift b s
  | .s30Ok => Sys2Proof.Machine.execS30Ok s
  | .s30Bad b => Sys2Proof.Machine.execS30Bad b s
  | .rfcAppend b => Sys2Proof.Machine.execRfcAppend b s
  | .rpAppend b => Sys2Proof.Machine.execRpAppend b s
  | .rgtAppend b => Sys2Proof.Machine.execRgtAppend b s
  | .done => Sys2Proof.Machine.execDone s
  | .reset => Sys2Proof.Machine.execReset s
  | .keyload hex aad => Sys2Proof.Machine.execKeyload hex aad s
  | .extract => Sys2Proof.Machine.execExtract s
  | .forward => Sys2Proof.Machine.execForward s
  | .decrypt handle nonce cipherAndTag => Sys2Proof.Machine.execDecrypt handle nonce cipherAndTag s
  | .pipelineStep b handle => Sys2Proof.Machine.execPipelineStep b handle s

end Sys2Proof.Machine
end

