-- ==== Sys2Proof/WellFormed.lean ====
section
/-! DEFINITION. Which instructions are well formed: those a selector or a host call can name. -/

namespace Sys2Proof

/-- The byte of a default row is one its state's first row does not match (R72, R73). Every other operand is free:
a byte of any value, a key text and an AAD of any shape (a bad one is a result of `KEYLOAD`, R119), operands of
`DECRYPT` of any length (R123). -/
def Instr.wf : Instr → Bool
  | .wsStart => true
  | .wsSkip b => b != Machine.startMarker
  | .rtlSet _ => true
  | .rtAppend _ => true
  | .s82Ok => true
  | .s82Bad b => b != Machine.sep82
  | .rplShift _ => true
  | .s30Ok => true
  | .s30Bad b => b != Machine.sep30
  | .rfcAppend _ => true
  | .rpAppend _ => true
  | .rgtAppend _ => true
  | .done => true
  | .reset => true
  | .keyload _ _ => true
  | .extract => true
  | .forward => true
  | .decrypt _ _ _ => true
  | .pipelineStep _ _ => true

/-- Whether an instruction is one of the thirteen byte events (R4, R72). -/
def Instr.isEvent : Instr → Bool
  | .wsStart => true
  | .wsSkip _ => true
  | .rtlSet _ => true
  | .rtAppend _ => true
  | .s82Ok => true
  | .s82Bad _ => true
  | .rplShift _ => true
  | .s30Ok => true
  | .s30Bad _ => true
  | .rfcAppend _ => true
  | .rpAppend _ => true
  | .rgtAppend _ => true
  | .done => true
  | .reset => false
  | .keyload _ _ => false
  | .extract => false
  | .forward => false
  | .decrypt _ _ _ => false
  | .pipelineStep _ _ => false

/-- What the pseudo-instruction `FRAME(title, fc, payload, tag)` requires of its operands (R85). -/
def frameWf (title fc payload tag : Bytes) : Bool :=
  decide (title.length ≤ Machine.titleCapacity) && decide (fc.length = Machine.fcBytes) &&
    decide (payload.length ≤ Machine.payloadCapacity) && decide (tag.length = Machine.tagBytes)

end Sys2Proof
end

