-- ==== Sys2Proof/Decode.lean ====
section
/-! DEFINITION. The event selector, the decoder, the encoder and the table word (section 3 of 30_encoding.md). -/

namespace Sys2Proof

/-- The 4-bit state codes (R75). -/
def ParserState.code : ParserState → BitVec 4
  | .waitStart => 0
  | .readTitleLength => 1
  | .readTitle => 2
  | .readSep82 => 3
  | .readPayloadLength => 4
  | .readSep30 => 5
  | .readFrameCounter => 6
  | .readPayload => 7
  | .readGcmTag => 8
  | .done => 9

/-- The state of a code; codes 10 to 15 are reserved (R75, R76). -/
def ParserState.ofCode (c : BitVec 4) : Option ParserState :=
  [ParserState.waitStart, .readTitleLength, .readTitle, .readSep82, .readPayloadLength, .readSep30,
    .readFrameCounter, .readPayload, .readGcmTag, .done][c.toNat]?

/-- The selector of a state and an input byte: the code in bits 11 to 8, the byte in bits 7 to 0 (R71). -/
def selector (st : ParserState) (b : Byte) : Selector := st.code ++ b

/-- `sel[11:8]` (R71). -/
def selectorCode (sel : Selector) : BitVec 4 := sel.extractLsb' 8 4

/-- `sel[7:0]` (R71). -/
def selectorByte (sel : Selector) : Byte := sel.extractLsb' 0 8

/-- Why a selector names no event. -/
inductive DecodeReject where
  /-- The state code is one of the reserved 10 to 15 (R76). -/
  | reservedState (code : BitVec 4)
  deriving DecidableEq, Repr

/-- A row of the opcode map: it is selected when `sel & mask = pattern` (R72). -/
structure EventRow where
  pattern : Selector
  mask : Selector
  build : Byte → Instr

/-- The opcode map, the full-mask rows before the state-only rows of the same state (R72, R73). -/
def eventRows : List EventRow :=
  [ ⟨0x0DB, 0xFFF, fun _ => .wsStart⟩,
    ⟨0x000, 0xF00, .wsSkip⟩,
    ⟨0x100, 0xF00, .rtlSet⟩,
    ⟨0x200, 0xF00, .rtAppend⟩,
    ⟨0x382, 0xFFF, fun _ => .s82Ok⟩,
    ⟨0x300, 0xF00, .s82Bad⟩,
    ⟨0x400, 0xF00, .rplShift⟩,
    ⟨0x530, 0xFFF, fun _ => .s30Ok⟩,
    ⟨0x500, 0xF00, .s30Bad⟩,
    ⟨0x600, 0xF00, .rfcAppend⟩,
    ⟨0x700, 0xF00, .rpAppend⟩,
    ⟨0x800, 0xF00, .rgtAppend⟩,
    ⟨0x900, 0xF00, fun _ => .done⟩ ]

/-- The decoder: the first row that matches, tried in order (R72, R73); a reserved state code is rejected by name
(R76). `DONE` has no byte, so its low bits are not read. -/
def decode (sel : Selector) : Except DecodeReject Instr :=
  match eventRows.find? (fun r => sel &&& r.mask == r.pattern) with
  | some r => .ok (r.build (selectorByte sel))
  | none => .error (.reservedState (selectorCode sel))

/-- The encoder: the selector of a byte event (R72); a host operation has no encoding (R83). `DONE`, which has no
byte, is written with low bits 0. -/
def encode : Instr → Option Selector
  | .wsStart => some (selector .waitStart Machine.startMarker)
  | .wsSkip b => some (selector .waitStart b)
  | .rtlSet b => some (selector .readTitleLength b)
  | .rtAppend b => some (selector .readTitle b)
  | .s82Ok => some (selector .readSep82 Machine.sep82)
  | .s82Bad b => some (selector .readSep82 b)
  | .rplShift b => some (selector .readPayloadLength b)
  | .s30Ok => some (selector .readSep30 Machine.sep30)
  | .s30Bad b => some (selector .readSep30 b)
  | .rfcAppend b => some (selector .readFrameCounter b)
  | .rpAppend b => some (selector .readPayload b)
  | .rgtAppend b => some (selector .readGcmTag b)
  | .done => some (selector .done 0)
  | .reset => none
  | .keyload _ _ => none
  | .extract => none
  | .forward => none
  | .decrypt _ _ _ => none
  | .pipelineStep _ _ => none

/-- The instruction the decoder reads from an opcode-table word: the 12-bit selector of the table stands in bits 11
to 0, in whole bytes; a word of fewer bits (the host operations' rows have none, R83) or with a bit above the selector
is no instruction. -/
def decodeTableWord (nbits w : Nat) : Option Instr :=
  if nbits < 12 then none
  else if w < 4096 then (decode (BitVec.ofNat 12 w)).toOption
  else none

end Sys2Proof
end

