-- ==== Sys2Proof/Machine/Fetch.lean ====
section
/-! DEFINITION. What the next step takes: the next input, and the instruction it stands for. -/

namespace Sys2Proof.Machine

/-- What a step takes. -/
inductive Fetched where
  /-- No input waits (R158). -/
  | nothing
  /-- An instruction, and the inputs left after it. -/
  | instr (i : Instr) (rest : List Input)
  /-- The host's choice of `MODE` (R38, R191). -/
  | mode (m : Sink) (rest : List Input)
  /-- The Byte Source has failed (R159). -/
  | sourceFailure
  /-- The selector names no event (R76). -/
  | rejected (r : DecodeReject)
  deriving DecidableEq, Repr

/-- The event that the state and a byte of the stream select, by the decoder (R71, R72). -/
def fetchEvent (st : ParserState) (b : Byte) (rest : List Input) : Fetched :=
  match decode (selector st b) with
  | .ok i => .instr i rest
  | .error r => .rejected r

/-- One input: a byte goes to the decoder, a host call is its own instruction (R83). -/
def fetchInput (st : ParserState) (input : Input) (rest : List Input) : Fetched :=
  match input with
  | .byte b => fetchEvent st b rest
  | .reset => .instr .reset rest
  | .keyload hex aad => .instr (.keyload hex aad) rest
  | .extract => .instr .extract rest
  | .forward => .instr .forward rest
  | .decrypt handle nonce cipherAndTag => .instr (.decrypt handle nonce cipherAndTag) rest
  | .pipelineStep b handle => .instr (.pipelineStep b handle) rest
  | .setMode m => .mode m rest
  | .transportError => .sourceFailure

/-- What the next step takes. `Done` consumes no byte: in it the `DONE` step is next, whatever waits (R72, R100; log
9). -/
def fetch (s : State) : Fetched :=
  match s.state, s.inputs with
  | .done, inputs => fetchEvent .done 0 inputs
  | _, [] => .nothing
  | st, input :: rest => fetchInput st input rest

end Sys2Proof.Machine
end

