-- ==== Sys2Proof/Machine/Step.lean ====
section
/-! DEFINITION. One step of the machine, and where a table word is placed so that the next step runs it. -/

namespace Sys2Proof.Machine

/-- One step: the next input is taken, the instruction it stands for is run, and an invocation of `feed` that has
reached `Done` passes through it (R87, R100). With no input the machine waits (R158). A failure of the Byte Source ends
the run (R159). -/
def step (s : State) : Host.Outcome State Fault Refusal :=
  match fetch s with
  | .nothing => .next (idle s)
  | .instr i rest => completeInvocation (exec i (withInputs rest s))
  | .mode m rest => .next (setMode m (withInputs rest s))
  | .sourceFailure => .fault .transportError
  | .rejected (.reservedState code) => .refused (.reservedState code)

/-- The selector `w` placed where `step` fetches: its state code in `state`, its byte as the next input. The selector
of `DONE` has no byte. A word that is no selector of a state places nothing (logs 1, 19). -/
def State.withFetchWord (s : State) (nbits w : Nat) : State :=
  if nbits < 12 then s
  else if w < 4096 then
    match ParserState.ofCode (selectorCode (BitVec.ofNat 12 w)) with
    | some .done => { s with state := .done }
    | some st => { s with state := st, inputs := .byte (selectorByte (BitVec.ofNat 12 w)) :: s.inputs }
    | none => s
  else s

end Sys2Proof.Machine
end

