-- ==== Sys2Proof/Machine/Instances.lean ====
section
/-! DEFINITION. Several instances side by side (R63, R183): each its own State; the host steps one at a time
(log 20). -/

namespace Sys2Proof.Machine

/-- The instances of a system: they share nothing writable (R183). -/
structure System where
  parts : List State
  deriving DecidableEq, Repr

/-- One step of instance `k`. It is none when there is no such instance or when its step does not answer a next
state; the other instances are as they were. -/
def System.stepAt (k : Nat) (y : System) : Option System :=
  match y.parts[k]? with
  | some s =>
    match step s with
    | .next t => some ⟨y.parts.set k t⟩
    | .fault _ => none
    | .refused _ => none
  | none => none

/-- A constructed Decryptor is immutable and may serve several instances (R63, R183): the Decryptor with this handle
of instance `i` is given to instance `j` too, under the next handle there. It is none when there is no such
Decryptor. -/
def System.share (i handle j : Nat) (y : System) : Option System :=
  match y.parts[i]?, y.parts[j]? with
  | some s, some t =>
    match s.decryptors[handle]? with
    | some d => some ⟨y.parts.set j (addDecryptor d t)⟩
    | none => none
  | _, _ => none

end Sys2Proof.Machine
end

