-- ==== Sys2Proof/Machine/Ports.lean ====
section
/-! DEFINITION. The hardware wrapper (R43, R44 of 10_state.md, R128 of 42_decryptor.md, R50): what the ports show of
a state or of a Decryptor, and one clock edge of the assembler. A port read takes the clock cycle it happens in, which
only a free value depends on (log 15). -/

namespace Sys2Proof.Machine

/-- The input ports of the assembler at a rising edge (R43). -/
structure PortIn where
  rst : Bool
  inValid : Bool
  inByte : Byte
  deriving DecidableEq, Repr

/-- One rising edge: `rst` performs `RESET` and the byte presented is not consumed; else `in_valid` is one invocation
of `feed`; else nothing (R10, R43, R187). -/
def clockEdge (p : PortIn) (s : State) : Host.Outcome State Fault Refusal :=
  if p.rst then execReset s else if p.inValid then .next (feed p.inByte s) else .next (idle s)

/-- Port `ready`. -/
def readyPort (s : State) : Bool := s.ready

/-- Port `err`, 2 bits (R164). -/
def errPort (s : State) : BitVec 2 := s.err.code.extractLsb' 0 2

/-- A byte sequence of `w / 8` bytes on a port of `w` bits, byte 0 in the most significant 8 bits (R50). -/
def packBytes (w : Nat) (bs : Bytes) : BitVec w := bs.foldl (fun acc b => (acc <<< 8) ||| b.setWidth w) 0

/-- Port `title_len` (R43, R44). -/
def titleLenPort (cycle : Nat) (s : State) : BitVec 8 :=
  if s.telegramValid then s.titleLen else Config.unspecifiedPort 8 .titleLen 0 cycle

/-- Read port `title_rd_data` at an index (R43, R44). -/
def titleRdData (cycle : Nat) (idx : BitVec 8) (s : State) : Byte :=
  if s.telegramValid ∧ idx.toNat < s.systemTitle.length then s.systemTitle.getD idx.toNat 0
  else Config.unspecifiedPort 8 .titleRdData idx.toNat cycle

/-- Port `declared_length` (R43, R44). -/
def declaredLengthPort (cycle : Nat) (s : State) : BitVec 16 :=
  if s.telegramValid then s.declaredLength else Config.unspecifiedPort 16 .declaredLength 0 cycle

/-- Port `frame_counter`, byte 0 in bits 31 to 24 (R43, R44). -/
def frameCounterPort (cycle : Nat) (s : State) : BitVec 32 :=
  if s.telegramValid ∧ s.frameCounter.length = fcBytes then packBytes 32 s.frameCounter
  else Config.unspecifiedPort 32 .frameCounter 0 cycle

/-- Port `payload_len` (R43, R44). -/
def payloadLenPort (cycle : Nat) (s : State) : BitVec 16 :=
  if s.telegramValid then BitVec.ofNat 16 s.payload.length else Config.unspecifiedPort 16 .payloadLen 0 cycle

/-- Read port `payload_rd_data` at an index (R43, R44). -/
def payloadRdData (cycle : Nat) (idx : BitVec 16) (s : State) : Byte :=
  if s.telegramValid ∧ idx.toNat < s.payload.length then s.payload.getD idx.toNat 0
  else Config.unspecifiedPort 8 .payloadRdData idx.toNat cycle

/-- Port `auth_tag`, byte 0 in bits 95 to 88 (R43, R44). -/
def authTagPort (cycle : Nat) (s : State) : BitVec 96 :=
  if s.telegramValid ∧ s.authTag.length = tagBytes then packBytes 96 s.authTag
  else Config.unspecifiedPort 96 .authTag 0 cycle

/-- Port `key` of a Decryptor, 128 bits: `KEY`, byte 0 in bits 127 to 120, constant after construction (R36, R128). It
is an input of the core; the key appears on no output (R179). -/
def keyPort (d : Decryptor) : BitVec 128 := d.key

/-- Port `aad_len` of a Decryptor: `AAD_LEN`. Its width is a parameter, so it is a natural number here (R128). -/
def aadLenPort (d : Decryptor) : Nat := d.aad.length

/-- Read port `aad_rd_data` at an index: the AAD as a read-only byte memory of `AAD_LEN` bytes (R128). At an index
beyond it the spec gives no data, and it is a free value (log 15). -/
def aadRdData (cycle idx : Nat) (d : Decryptor) : Byte :=
  d.aad.getD idx (Config.unspecifiedPort 8 .aadRdData idx cycle)

/-- A pulse on `dec_start`, up to its `dec_done`: `DECRYPT` on the Telegram now in the assembler's buffers (R128). It
is one step here: no byte can be fed in between (R193; log 21). Outside the window there is no Telegram to read
(R109). -/
def decStart (handle : Nat) (s : State) : Host.Outcome State Fault Refusal :=
  if s.telegramValid then execDecrypt handle (nonceOf s) (cipherAndTagOf s) s else .refused .noTelegram

/-- Port `dec_done`: 1 in the state that a finished `DECRYPT` leaves, and 0 after every other step (R128; log 15). -/
def decDonePort (s : State) : Bool :=
  match s.result with
  | .decrypted _ => true
  | .none => false
  | .constructed _ => false
  | .constructionFailed _ => false
  | .extracted _ _ => false
  | .forwarded _ _ _ => false

/-- Port `dec_ok` (R128). -/
def decOkPort (s : State) : Bool := s.lastDecrypt.ok

/-- Port `dec_status`, 4 bits (R125, R128). -/
def decStatusPort (s : State) : BitVec 4 := s.lastDecrypt.status.code

/-- Port `pt_len`: `len(plaintext)`, 0 when `dec_ok = 0` (R128). For a plaintext beyond the capacity of R45, which no
Telegram gives, the spec states no value, and it is a free value: DESIGN CHOICE (log 25). -/
def ptLenPort (cycle : Nat) (s : State) : BitVec 16 :=
  if s.lastDecrypt.ok then
    if s.lastDecrypt.plaintext.length ≤ payloadCapacity then BitVec.ofNat 16 s.lastDecrypt.plaintext.length
    else Config.unspecifiedPort 16 .ptLen 0 cycle
  else 0

/-- Read port `pt_rd_data`: the plaintext at an index below `pt_len`, else 0 (R128). Where a free `pt_len` exceeds the
plaintext the byte is free as well (log 25). -/
def ptRdData (cycle : Nat) (idx : BitVec 16) (s : State) : Byte :=
  if idx < ptLenPort cycle s then
    s.lastDecrypt.plaintext.getD idx.toNat (Config.unspecifiedPort 8 .ptRdData idx.toNat cycle)
  else 0

end Sys2Proof.Machine
end

