-- ==== Sys2Proof/Machine/Stream.lean ====
section
/-! DEFINITION. Streams: the pseudo-instructions that build them (R85), and the block run over a byte sequence (R104,
R156). -/

namespace Sys2Proof.Machine

/-- `hi(L)` (R85). -/
def hiByte (len : Nat) : Byte := BitVec.ofNat 8 (len / 256)

/-- `lo(L)` (R85). -/
def loByte (len : Nat) : Byte := BitVec.ofNat 8 (len % 256)

/-- `FRAMEL(title, L, fc, body)`: the declared length is free (R85). Operands beyond R85's requirements: log 27. -/
def frameWithLength (title : Bytes) (len : Nat) (fc body : Bytes) : Bytes :=
  [startMarker, BitVec.ofNat 8 title.length] ++ title ++ [sep82, hiByte len, loByte len, sep30] ++ fc ++ body

/-- `FRAME(title, fc, payload, tag)`, with `L = len(payload) + 17` (R64, R85). -/
def frameBytes (title fc payload tag : Bytes) : Bytes :=
  frameWithLength title (payload.length + overhead) fc (payload ++ tag)

/-- `SEAL(K, A, title, fc, P)` (R85). -/
def sealFrame (K : Block) (A title fc P : Bytes) : Bytes :=
  let ct := gcmAe K (title ++ fc) A P
  frameBytes title fc ct.1 ct.2

/-- The state after a byte sequence (R104). -/
def feedAll (bs : Bytes) (s : State) : State := bs.foldl (fun t b => feed b t) s

/-- The sequence of (`ready`, `err`) results of a byte sequence (R104). -/
def feedResults : Bytes → State → List (Bool × Cause)
  | [], _ => []
  | b :: bs, s => ((feed b s).ready, (feed b s).err) :: feedResults bs (feed b s)

/-- An output of a run: a non-zero `err` code or a frame result (R156). -/
inductive RunOutput where
  | error (cause : Cause)
  | frame (r : HostResult)
  deriving DecidableEq, Repr

/-- The output of one `PIPELINE_STEP` (R156). -/
def stepOutput (s : State) : Option RunOutput :=
  if s.err ≠ .ok then some (.error s.err) else if s.result ≠ .none then some (.frame s.result) else none

/-- A run of the block over a byte sequence whose first byte has index `k`: the outputs, each with the index of its
byte, and how the run ended (R156). -/
def runPipeline (handle : Nat) : Nat → Bytes → State → List (Nat × RunOutput) × Host.Outcome State Fault Refusal
  | _, [], s => ([], .next s)
  | k, b :: bs, s =>
    match execPipelineStep b handle s with
    | .next t =>
      let r := runPipeline handle (k + 1) bs t
      ((stepOutput t).toList.map (fun o => (k, o)) ++ r.1, r.2)
    | .fault r => ([], .fault r)
    | .refused r => ([], .refused r)

end Sys2Proof.Machine
end

