-- ==== Sys2Proof/Safety.lean ====
section
/-! DEFINITION. What claims speak of: the invariant of R32, the arrows of R102, and the fields the spec gives. -/

namespace Sys2Proof.Machine

/-- The lengths of `systemTitle`, `frameCounter`, `payload` and `authTag`, in this order. -/
abbrev holdsLengths (s : State) (title fc payload tag : Nat) : Prop :=
  s.systemTitle.length = title ∧ s.frameCounter.length = fc ∧ s.payload.length = payload ∧ s.authTag.length = tag

/-- The rows of R32, one for each state, with `N = titleLen` and `L = declaredLength`. In `WaitStart` no relation
holds; `Done` does not occur between invocations (R23). -/
abbrev layoutHolds (s : State) : Prop :=
  (s.state = .readTitleLength →
    s.pos.toNat = 0 ∧ s.target.toNat = 0 ∧ holdsLengths s 0 0 0 0 ∧ s.titleLen.toNat = 0 ∧
      s.declaredLength.toNat = 0) ∧
  (s.state = .readTitle →
    1 ≤ s.pos.toNat ∧ s.pos.toNat < s.target.toNat ∧ s.target.toNat = 1 + s.titleLen.toNat ∧
      holdsLengths s (s.pos.toNat - 1) 0 0 0 ∧ 1 ≤ s.titleLen.toNat ∧ s.declaredLength.toNat = 0) ∧
  (s.state = .readSep82 →
    s.pos.toNat = 1 + s.titleLen.toNat ∧ s.target.toNat = 1 + s.titleLen.toNat ∧
      holdsLengths s s.titleLen.toNat 0 0 0 ∧ s.declaredLength.toNat = 0) ∧
  (s.state = .readPayloadLength →
    s.target.toNat = s.titleLen.toNat + 3 ∧ holdsLengths s s.titleLen.toNat 0 0 0 ∧
      ((s.pos.toNat = s.titleLen.toNat + 1 ∧ s.declaredLength.toNat = 0) ∨
        (s.pos.toNat = s.titleLen.toNat + 2 ∧ s.declaredLength.toNat < 256))) ∧
  (s.state = .readSep30 →
    s.pos.toNat = s.titleLen.toNat + 3 ∧ s.target.toNat = s.titleLen.toNat + 3 ∧
      holdsLengths s s.titleLen.toNat 0 0 0) ∧
  (s.state = .readFrameCounter →
    s.target.toNat = s.titleLen.toNat + 7 ∧ s.titleLen.toNat + 3 ≤ s.pos.toNat ∧
      s.pos.toNat ≤ s.titleLen.toNat + 6 ∧
      holdsLengths s s.titleLen.toNat (s.pos.toNat - (s.titleLen.toNat + 3)) 0 0) ∧
  (s.state = .readPayload →
    s.target.toNat = s.titleLen.toNat + s.declaredLength.toNat - 10 ∧ s.titleLen.toNat + 7 ≤ s.pos.toNat ∧
      s.pos.toNat < s.target.toNat ∧ 17 < s.declaredLength.toNat ∧
      holdsLengths s s.titleLen.toNat 4 (s.pos.toNat - (s.titleLen.toNat + 7)) 0) ∧
  (s.state = .readGcmTag →
    s.target.toNat = s.titleLen.toNat + s.declaredLength.toNat + 2 ∧
      s.titleLen.toNat + s.declaredLength.toNat - 10 ≤ s.pos.toNat ∧ s.pos.toNat < s.target.toNat ∧
      17 ≤ s.declaredLength.toNat ∧
      holdsLengths s s.titleLen.toNat 4 (s.declaredLength.toNat - 17)
        (s.pos.toNat - (s.titleLen.toNat + s.declaredLength.toNat - 10))) ∧
  s.state ≠ .done

/-- A complete Telegram: the lengths of R32 at a `ready`. -/
abbrev telegramComplete (s : State) : Prop :=
  17 ≤ s.declaredLength.toNat ∧ s.pos.toNat = s.titleLen.toNat + s.declaredLength.toNat + 2 ∧
    s.target.toNat = s.titleLen.toNat + s.declaredLength.toNat + 2 ∧
    holdsLengths s s.titleLen.toNat 4 (s.declaredLength.toNat - 17) 12

/-- What holds of every state between two steps. -/
structure Inv (s : State) : Prop where
  /-- The rows of R32. -/
  layout : layoutHolds s
  /-- No buffer exceeds its capacity (R20, R52), in `WaitStart` too. -/
  capacity : s.systemTitle.length ≤ titleCapacity ∧ s.frameCounter.length ≤ fcBytes ∧
    s.payload.length ≤ payloadCapacity ∧ s.authTag.length ≤ tagBytes
  /-- No position register exceeds 65792 (R29). -/
  bound : s.pos.toNat ≤ 65792 ∧ s.target.toNat ≤ 65792
  /-- In the window of R44 the buffers hold a complete Telegram and the machine waits (R32, R60). -/
  window : s.telegramValid = true → s.state = .waitStart ∧ telegramComplete s
  /-- A `ready` opens the window, and comes with no error (R34, R44). -/
  delivered : s.ready = true → s.telegramValid = true ∧ s.err = .ok
  /-- `err` is a result of `feed`; an error leaves the machine in `WaitStart` with the window shut (R34, R169). -/
  errors : s.err.isFeedResult = true ∧ (s.err ≠ .ok → s.state = .waitStart ∧ s.telegramValid = false)
  /-- A failed `DECRYPT` holds no plaintext (R124), a successful one the status `OK` (R125). -/
  verdict : (s.lastDecrypt.ok = false → s.lastDecrypt.plaintext = []) ∧
    (s.lastDecrypt.ok = true → s.lastDecrypt.status = .ok)

/-- The arrows of the transition table between two invocations, the passage through `Done` taken (R102). -/
def transitionArrows : List (ParserState × ParserState) :=
  [ (.waitStart, .waitStart), (.waitStart, .readTitleLength),
    (.readTitleLength, .readTitle), (.readTitleLength, .readSep82),
    (.readTitle, .readTitle), (.readTitle, .readSep82),
    (.readSep82, .readPayloadLength), (.readSep82, .waitStart),
    (.readPayloadLength, .readPayloadLength), (.readPayloadLength, .readSep30),
    (.readSep30, .readFrameCounter), (.readSep30, .waitStart),
    (.readFrameCounter, .readFrameCounter), (.readFrameCounter, .readPayload),
    (.readFrameCounter, .readGcmTag), (.readFrameCounter, .waitStart),
    (.readPayload, .readPayload), (.readPayload, .readGcmTag),
    (.readGcmTag, .readGcmTag), (.readGcmTag, .waitStart) ]

/-- The fields the spec gives the machine: all of State but the model's own `result`, `telegramValid` and `inputs`
(logs 1 to 3). -/
structure SpecState where
  state : ParserState
  titleLen : BitVec 8
  declaredLength : BitVec 16
  pos : Position
  target : Position
  systemTitle : Bytes
  frameCounter : Bytes
  payload : Bytes
  authTag : Bytes
  ready : Bool
  err : Cause
  decryptors : List Decryptor
  mode : Sink
  lastDecrypt : DecryptResult
  deriving DecidableEq, Repr

/-- What a state holds of the fields the spec gives. -/
abbrev specOf (s : State) : SpecState where
  state := s.state
  titleLen := s.titleLen
  declaredLength := s.declaredLength
  pos := s.pos
  target := s.target
  systemTitle := s.systemTitle
  frameCounter := s.frameCounter
  payload := s.payload
  authTag := s.authTag
  ready := s.ready
  err := s.err
  decryptors := s.decryptors
  mode := s.mode
  lastDecrypt := s.lastDecrypt

end Sys2Proof.Machine
end

