-- ==== Sys2Proof/Certificates/Slice0/Obligations.lean ====
section
/-! DEFINITION. The statements for the provers. `specOf` is every field the spec gives the machine, so an equation
between `specOf t` and an update of `specOf s` says what an instruction changes and that it changes nothing else. -/

open Sys2Proof Sys2Proof.Machine

/-! ### Reset -/

/-- The reset values of R42; `MODE`, the Decryptor's outputs and the model's own fields are left out (logs 1 to 6). -/
def Obligations.ResetGivesInitialAssembler : Prop :=
  State.reset.state = .waitStart ∧ State.reset.titleLen = 0 ∧ State.reset.declaredLength = 0 ∧
    State.reset.pos = 0 ∧ State.reset.target = 0 ∧ State.reset.systemTitle = [] ∧ State.reset.frameCounter = [] ∧
    State.reset.payload = [] ∧ State.reset.authTag = [] ∧ State.reset.ready = false ∧ State.reset.err = .ok ∧
    State.reset.decryptors = []

/-- The invariant holds right after reset. That the window of R44 is shut and what `lastDecrypt` holds there are the
model's own (logs 2, 6). -/
def Obligations.ResetMeetsInvariant : Prop := Inv State.reset

/-- R187 and R188: `RESET` in any state; the configuration and the Decryptor's outputs are not touched. A second
`RESET` changes nothing. -/
def Obligations.ResetReinitialisesAssembler : Prop :=
  ∀ s : State, ∃ t, exec .reset s = .next t ∧
    specOf t = { specOf s with
      state := .waitStart, systemTitle := [], frameCounter := [], payload := [], authTag := []
      titleLen := 0, declaredLength := 0, pos := 0, target := 0, ready := false, err := .ok } ∧
    exec .reset t = .next t

/-! ### The thirteen byte events -/

/-- R89: selection and effect of `WS.START`; no other byte event takes a byte out of a buffer. -/
def Obligations.StartMarkerClearsTelegram : Prop :=
  decode (selector .waitStart 0xDB) = .ok .wsStart ∧
  (∀ s : State, ∃ t, exec .wsStart s = .next t ∧
    specOf t = { specOf s with
      state := .readTitleLength, systemTitle := [], frameCounter := [], payload := [], authTag := []
      titleLen := 0, declaredLength := 0, pos := 0, target := 0, ready := false, err := .ok }) ∧
  ∀ (i : Instr) (s : State), i.isEvent = true → i ≠ .wsStart → ∃ t, exec i s = .next t ∧
    s.systemTitle <+: t.systemTitle ∧ s.frameCounter <+: t.frameCounter ∧ s.payload <+: t.payload ∧
    s.authTag <+: t.authTag

/-- R88: selection and effect of `WS.SKIP`. -/
def Obligations.SkippedByteChangesNothing : Prop :=
  (∀ b : Byte, b ≠ 0xDB → decode (selector .waitStart b) = .ok (.wsSkip b)) ∧
  ∀ (b : Byte) (s : State), ∃ t, exec (.wsSkip b) s = .next t ∧
    specOf t = { specOf s with ready := false, err := .ok }

/-- R90: selection and effect of `RTL.SET`. -/
def Obligations.TitleLengthSetsTarget : Prop :=
  (∀ b : Byte, decode (selector .readTitleLength b) = .ok (.rtlSet b)) ∧
  ∀ (b : Byte) (s : State), ∃ t, exec (.rtlSet b) s = .next t ∧
    specOf t = { specOf s with
      pos := s.pos + 1, titleLen := b, target := 1 + b.setWidth 17
      state := if b = 0 then .readSep82 else .readTitle, ready := false, err := .ok }

/-- R91: selection and effect of `RT.APPEND`. -/
def Obligations.TitleByteIsAppended : Prop :=
  (∀ b : Byte, decode (selector .readTitle b) = .ok (.rtAppend b)) ∧
  ∀ (b : Byte) (s : State), ∃ t, exec (.rtAppend b) s = .next t ∧
    specOf t = { specOf s with
      pos := s.pos + 1, systemTitle := s.systemTitle ++ [b]
      state := if s.pos + 1 = s.target then .readSep82 else s.state, ready := false, err := .ok }

/-- R92: selection and effect of `S82.OK`. -/
def Obligations.FirstSeparatorIsAccepted : Prop :=
  decode (selector .readSep82 0x82) = .ok .s82Ok ∧
  ∀ s : State, ∃ t, exec .s82Ok s = .next t ∧
    specOf t = { specOf s with
      target := s.target + 2, state := .readPayloadLength, ready := false, err := .ok }

/-- R93 and R164: selection and effect of `S82.BAD`, which reports code 1. -/
def Obligations.WrongFirstSeparatorAborts : Prop :=
  (∀ b : Byte, b ≠ 0x82 → decode (selector .readSep82 b) = .ok (.s82Bad b)) ∧
  ∀ (b : Byte) (s : State), ∃ t, exec (.s82Bad b) s = .next t ∧
    specOf t = { specOf s with state := .waitStart, ready := false, err := .badSep82 } ∧ errPort t = 1

/-- R94: selection and effect of `RPL.SHIFT`. -/
def Obligations.LengthByteIsShiftedIn : Prop :=
  (∀ b : Byte, decode (selector .readPayloadLength b) = .ok (.rplShift b)) ∧
  ∀ (b : Byte) (s : State), ∃ t, exec (.rplShift b) s = .next t ∧
    specOf t = { specOf s with
      pos := s.pos + 1, declaredLength := BitVec.ofNat 16 (256 * s.declaredLength.toNat + b.toNat)
      state := if s.pos + 1 = s.target then .readSep30 else s.state, ready := false, err := .ok }

/-- R95: selection and effect of `S30.OK`. -/
def Obligations.SecondSeparatorIsAccepted : Prop :=
  decode (selector .readSep30 0x30) = .ok .s30Ok ∧
  ∀ s : State, ∃ t, exec .s30Ok s = .next t ∧
    specOf t = { specOf s with
      target := s.target + 4, state := .readFrameCounter, ready := false, err := .ok }

/-- R96 and R164: selection and effect of `S30.BAD`, which reports code 2. -/
def Obligations.WrongSecondSeparatorAborts : Prop :=
  (∀ b : Byte, b ≠ 0x30 → decode (selector .readSep30 b) = .ok (.s30Bad b)) ∧
  ∀ (b : Byte) (s : State), ∃ t, exec (.s30Bad b) s = .next t ∧
    specOf t = { specOf s with state := .waitStart, ready := false, err := .badSep30 } ∧ errPort t = 2

/-- R97: selection and effect of `RFC.APPEND`: on the byte that reaches the target the payload is sized, or a declared
length below 17 raises error 3. -/
def Obligations.CounterByteIsAppendedAndSizesPayload : Prop :=
  (∀ b : Byte, decode (selector .readFrameCounter b) = .ok (.rfcAppend b)) ∧
  ∀ (b : Byte) (s : State), ∃ t, exec (.rfcAppend b) s = .next t ∧
    errPort t = (if s.pos + 1 = s.target ∧ s.declaredLength.toNat < 17 then 3 else 0) ∧
    specOf t =
      (let u := { specOf s with
        pos := s.pos + 1, frameCounter := s.frameCounter ++ [b], ready := false, err := .ok }
      if s.pos + 1 = s.target then
        if s.declaredLength.toNat < 17 then { u with state := .waitStart, err := .lengthUnderflow }
        else if s.declaredLength.toNat = 17 then { u with target := s.target + 12, state := .readGcmTag }
        else { u with target := s.target + (s.declaredLength.setWidth 17 - 17), state := .readPayload }
      else u)

/-- R98: selection and effect of `RP.APPEND`. -/
def Obligations.PayloadByteIsAppended : Prop :=
  (∀ b : Byte, decode (selector .readPayload b) = .ok (.rpAppend b)) ∧
  ∀ (b : Byte) (s : State), ∃ t, exec (.rpAppend b) s = .next t ∧
    specOf t =
      (let u := { specOf s with pos := s.pos + 1, payload := s.payload ++ [b], ready := false, err := .ok }
      if s.pos + 1 = s.target then { u with target := s.target + 12, state := .readGcmTag } else u)

/-- R99: selection and effect of `RGT.APPEND`; the invocation whose byte reaches the target ends with `ready`. -/
def Obligations.TagByteIsAppended : Prop :=
  (∀ b : Byte, decode (selector .readGcmTag b) = .ok (.rgtAppend b)) ∧
  (∀ (b : Byte) (s : State), ∃ t, exec (.rgtAppend b) s = .next t ∧
    specOf t = { specOf s with
      pos := s.pos + 1, authTag := s.authTag ++ [b]
      state := if s.pos + 1 = s.target then .done else s.state, ready := false, err := .ok }) ∧
  ∀ (b : Byte) (s : State), s.state = .readGcmTag →
    (feed b s).ready = decide (s.pos + 1 = s.target) ∧ (feed b s).err = .ok

/-- R100: selection and effect of `DONE`; the registers and buffers keep the completed frame. In the next invocation
`ready` is false again, and a start marker that follows at once begins the next frame. -/
def Obligations.DoneDeliversTheFrame : Prop :=
  (∀ b : Byte, decode (selector .done b) = .ok .done) ∧
  ∀ s : State, ∃ t, exec .done s = .next t ∧
    specOf t = { specOf s with state := .waitStart, ready := true, err := .ok } ∧
    (∀ b : Byte, (feed b t).ready = false) ∧ (feed 0xDB t).state = .readTitleLength

/-- The model's own fields after a byte event (logs 1 to 3): nothing is returned, no input is taken by the event itself,
and the window of R44 is shut by `WS.START`, opened by `DONE` and otherwise as it was. -/
def Obligations.EventsKeepOwnFields : Prop :=
  ∀ (i : Instr) (s : State), i.isEvent = true → ∃ t, exec i s = .next t ∧ t.result = .none ∧ t.inputs = s.inputs ∧
    t.telegramValid = (if i = .wsStart then false else if i = .done then true else s.telegramValid)

/-- R27: six events count a byte, the others do not, and no count wraps (R101). -/
def Obligations.PositionCountsFieldBytes : Prop :=
  ∀ (s : State) (b : Byte), Inv s →
    (feed b s).pos.toNat =
      match s.state with
      | .waitStart => if b = 0xDB then 0 else s.pos.toNat
      | .readSep82 => s.pos.toNat
      | .readSep30 => s.pos.toNat
      | .done => s.pos.toNat
      | _ => s.pos.toNat + 1

/-! ### Selection, decoding and encoding -/

/-- R76: a selector with a code of 10 to 15 is rejected by name; every other selector is an event. -/
def Obligations.ReservedCodesAreRejected : Prop :=
  ∀ sel : Selector,
    (10 ≤ (selectorCode sel).toNat → decode sel = .error (.reservedState (selectorCode sel))) ∧
    ((selectorCode sel).toNat < 10 → ∃ i, decode sel = .ok i ∧ i.isEvent = true)

/-- Decoding the encoding of a well-formed byte event gives it back, with every operand at every value; a host
operation has no encoding (R83). -/
def Obligations.DecodeOfEncodeIsIdentity : Prop :=
  ∀ i : Instr, i.wf = true →
    (i.isEvent = true → ∃ sel, encode i = some sel ∧ decode sel = .ok i) ∧ (i.isEvent = false → encode i = none)

/-- What the decoder reads is a well-formed byte event, and encoding it gives the selector back; `DONE` has no byte and
is encoded with zeros in its place. -/
def Obligations.EncodeOfDecodeIsIdentity : Prop :=
  ∀ (sel : Selector) (i : Instr), decode sel = .ok i →
    i.wf = true ∧ i.isEvent = true ∧ encode i = some (if i = .done then 0x900 else sel)

/-- A few words written out from the table of R72 decode to their instructions. -/
def Obligations.TableWordsDecode : Prop :=
  decode 0b000011011011 = .ok .wsStart ∧ decode 0b000000000000 = .ok (.wsSkip 0) ∧
    decode 0b000100001000 = .ok (.rtlSet 8) ∧ decode 0b001110000010 = .ok .s82Ok ∧
    decode 0b001110000011 = .ok (.s82Bad 0x83) ∧ decode 0b010100110000 = .ok .s30Ok ∧
    decode 0b100011011010 = .ok (.rgtAppend 0xDA) ∧ decode 0b100100000000 = .ok .done ∧
    decodeTableWord 16 0x0DB = some .wsStart ∧ decodeTableWord 16 0xA00 = none

/-! ### A step -/

/-- R71, R72 and R87: a step that takes a byte of the stream runs the decoded event on the state with that byte gone,
and then the `DONE` step if and only if the event left `state = Done`. In `Done`, which no run reaches, the `DONE` step
runs and takes no input (log 9). -/
def Obligations.StepRunsDecodedEvent : Prop :=
  (∀ (s : State) (b : Byte) (rest : List Input) (i : Instr), s.state ≠ .done → s.inputs = .byte b :: rest →
    decode (selector s.state b) = .ok i →
      ∃ t, exec i { s with inputs := rest } = .next t ∧
        step s = (if t.state = .done then exec .done t else .next t)) ∧
  ∀ s : State, s.state = .done → step s = exec .done s

/-- R83: a step that takes a host call runs that instruction on the state with the call gone. -/
def Obligations.StepRunsHostCall : Prop :=
  ∀ (s : State) (rest : List Input), s.state ≠ .done →
    (s.inputs = .reset :: rest → step s = exec .reset { s with inputs := rest }) ∧
    (∀ hex aad, s.inputs = .keyload hex aad :: rest → step s = exec (.keyload hex aad) { s with inputs := rest }) ∧
    (s.inputs = .extract :: rest → step s = exec .extract { s with inputs := rest }) ∧
    (s.inputs = .forward :: rest → step s = exec .forward { s with inputs := rest }) ∧
    (∀ h n c, s.inputs = .decrypt h n c :: rest → step s = exec (.decrypt h n c) { s with inputs := rest }) ∧
    (∀ b h, s.inputs = .pipelineStep b h :: rest → step s = exec (.pipelineStep b h) { s with inputs := rest })

/-- R158, R201 and R159: a step with no input changes no state, a choice of `MODE` changes `MODE` alone, and a failure
of the Byte Source ends the run. That the one-step results are silent, and that the end of the run is a fault, are the
model's choices (logs 3, 13). -/
def Obligations.StepWithoutAnInstruction : Prop :=
  ∀ s : State, s.state ≠ .done →
    (s.inputs = [] → ∃ t, step s = .next t ∧ specOf t = { specOf s with ready := false, err := .ok } ∧
      t.telegramValid = s.telegramValid ∧ t.inputs = []) ∧
    (∀ m rest, s.inputs = .setMode m :: rest → ∃ t, step s = .next t ∧
      specOf t = { specOf s with mode := m, ready := false, err := .ok } ∧
      t.telegramValid = s.telegramValid ∧ t.inputs = rest) ∧
    (∀ rest, s.inputs = .transportError :: rest → step s = .fault .transportError)

/-- R87: `feed` is total: a step that takes a byte answers a next state in every state but the transient `Done`, that
state is `feed` of the byte, and exactly that byte is consumed. -/
def Obligations.FeedIsTotal : Prop :=
  ∀ (s : State) (b : Byte) (rest : List Input), s.state ≠ .done → s.inputs = .byte b :: rest →
    step s = .next (feed b { s with inputs := rest }) ∧ (feed b { s with inputs := rest }).inputs = rest

/-- R23: `Done` is not the value of `state` after any step. -/
def Obligations.DoneIsNeverObserved : Prop := ∀ s t : State, step s = .next t → t.state ≠ .done

/-- R34 and R175: `ready` and a non-zero `err` never come from one step, and a non-zero `err` is one of the three
framing errors. -/
def Obligations.ReadyExcludesError : Prop :=
  ∀ s t : State, step s = .next t →
    (t.ready = true → t.err = .ok) ∧ t.err.isFeedResult = true

/-- R102: every step that takes a byte follows an arrow of the transition table. -/
def Obligations.BytesFollowTransitionArrows : Prop :=
  ∀ (s t : State) (b : Byte) (rest : List Input), s.state ≠ .done → s.inputs = .byte b :: rest → step s = .next t →
    (s.state, t.state) ∈ transitionArrows

/-- R102, with R32: the arrows that depend on the bytes counted, in the terms of the field sizes of R64. The title
length field is one byte and the payload length field two. -/
def Obligations.FieldEndsAtItsSize : Prop :=
  ∀ (s : State) (b : Byte), Inv s →
    (s.state = .readTitleLength →
      (feed b s).state = if b.toNat = 0 then .readSep82 else .readTitle) ∧
    (s.state = .readPayloadLength →
      ((feed b s).state = .readSep30 ↔ s.pos.toNat = s.titleLen.toNat + 2)) ∧
    (s.state = .readTitle →
      ((feed b s).state = .readSep82 ↔ s.systemTitle.length + 1 = s.titleLen.toNat)) ∧
    (s.state = .readFrameCounter →
      ((feed b s).state ≠ .readFrameCounter ↔ s.frameCounter.length = 3)) ∧
    (s.state = .readPayload →
      ((feed b s).state = .readGcmTag ↔ s.payload.length + 1 = s.declaredLength.toNat - 17)) ∧
    (s.state = .readGcmTag → ((feed b s).state = .waitStart ↔ s.authTag.length = 11))

/-- R32 and R52: the invariant of every state between invocations, kept by every step from every state that has it. -/
def Obligations.StepKeepsInvariant : Prop := ∀ s t : State, Inv s → step s = .next t → Inv t

/-- R169, R170 and R173: what the entry of a framing error leaves unchanged, and where each cause is raised. The fourth
frame counter byte is counted and stored before error 3. -/
def Obligations.FramingErrorWritesNothingElse : Prop :=
  ∀ (s t : State) (b : Byte) (rest : List Input), s.state ≠ .done → s.inputs = .byte b :: rest → step s = .next t →
    t.err ≠ .ok →
      (s.state = .readSep82 ∧ b ≠ 0x82 ∧
        specOf t = { specOf s with state := .waitStart, ready := false, err := .badSep82 }) ∨
      (s.state = .readSep30 ∧ b ≠ 0x30 ∧
        specOf t = { specOf s with state := .waitStart, ready := false, err := .badSep30 }) ∨
      (s.state = .readFrameCounter ∧ s.declaredLength.toNat < 17 ∧ s.pos + 1 = s.target ∧
        specOf t = { specOf s with
          pos := s.pos + 1, frameCounter := s.frameCounter ++ [b]
          state := .waitStart, ready := false, err := .lengthUnderflow })

/-! ### Streams -/

/-- R105, the frame theorem: from `WaitStart`, whatever the registers and buffers hold, the bytes of a frame are taken
one a step; every invocation but the last reports nothing, the last reports `ready`, and the Telegram is the frame's. -/
def Obligations.FrameIsDelivered : Prop :=
  ∀ (s : State) (t f p g : Bytes) (rest : List Input), s.state = .waitStart → frameWf t f p g = true →
    s.inputs = (frameBytes t f p g).map .byte ++ rest →
      (frameBytes t f p g).length = t.length + p.length + 22 ∧
      (∀ k, k + 1 < (frameBytes t f p g).length →
        ∃ u : State, Host.Core.run Sys2Proof.core (k + 1) s = .next u ∧ u.ready = false ∧ u.err = .ok) ∧
      ∃ u : State, Host.Core.run Sys2Proof.core (frameBytes t f p g).length s = .next u ∧
        u.ready = true ∧ u.err = .ok ∧ u.state = .waitStart ∧ u.titleLen.toNat = t.length ∧ u.systemTitle = t ∧
        u.declaredLength.toNat = p.length + 17 ∧ u.frameCounter = f ∧ u.payload = p ∧ u.authTag = g ∧ u.inputs = rest

/-- R106, its second sentence made general: after an event that raises a framing error and any bytes without a start
marker, a valid frame is the one frame delivered, with no byte of the aborted attempt. -/
def Obligations.AbortedFrameLeavesNoTrace : Prop :=
  ∀ (s : State) (b : Byte) (junk t f p g : Bytes), s.state ≠ .done → (feed b s).err ≠ .ok →
    (∀ x ∈ junk, x ≠ 0xDB) → frameWf t f p g = true →
      (feedResults (b :: junk ++ frameBytes t f p g) s).map Prod.fst =
        List.replicate (junk.length + (frameBytes t f p g).length) false ++ [true] ∧
      (let u := feedAll (b :: junk ++ frameBytes t f p g) s
       u.state = .waitStart ∧ u.titleLen.toNat = t.length ∧ u.systemTitle = t ∧
        u.declaredLength.toNat = p.length + 17 ∧ u.frameCounter = f ∧ u.payload = p ∧ u.authTag = g)

/-- R174: how many bytes each framing error consumes, from the start marker to the offending byte. -/
def Obligations.AbortConsumesCountedBytes : Prop :=
  ∀ (s : State) (t : Bytes), s.state = .waitStart → t.length ≤ 255 →
    (∀ x : Byte, x ≠ 0x82 →
      feedResults ([0xDB, BitVec.ofNat 8 t.length] ++ t ++ [x]) s =
        List.replicate (t.length + 2) (false, .ok) ++ [(false, .badSep82)]) ∧
    (∀ x b1 b2 : Byte, x ≠ 0x30 →
      feedResults ([0xDB, BitVec.ofNat 8 t.length] ++ t ++ [0x82, b1, b2, x]) s =
        List.replicate (t.length + 5) (false, .ok) ++ [(false, .badSep30)]) ∧
    (∀ (len : Nat) (f : Bytes), len < 17 → f.length = 4 →
      feedResults (frameWithLength t len f []) s =
        List.replicate (t.length + 9) (false, .ok) ++ [(false, .lengthUnderflow)])

/-- R78 and R88: a stream without the start marker is consumed from `WaitStart` with no effect, however long. -/
def Obligations.StreamWithoutMarkerIsSkipped : Prop :=
  ∀ (s : State) (bs : Bytes) (rest : List Input), s.state = .waitStart → bs ≠ [] → (∀ x ∈ bs, x ≠ 0xDB) →
    s.inputs = bs.map .byte ++ rest →
      ∃ u : State, Host.Core.run Sys2Proof.core bs.length s = .next u ∧
        specOf u = { specOf s with ready := false, err := .ok } ∧
        u.telegramValid = s.telegramValid ∧ u.inputs = rest

/-- R104: bytes delivered in two chunks, the second when the first is used up, leave the state that one chunk
leaves. -/
def Obligations.ChunkBoundariesDoNotMatter : Prop :=
  ∀ (s : State) (a b : Bytes), s.state ≠ .done →
    ∃ u : State, Host.Core.run Sys2Proof.core a.length { s with inputs := a.map .byte } = .next u ∧ u.inputs = [] ∧
      Host.Core.run Sys2Proof.core b.length { u with inputs := b.map .byte } =
        Host.Core.run Sys2Proof.core (a ++ b).length { s with inputs := (a ++ b).map .byte }

/-! ### The Extractor and the Forwarder -/

/-- R108, R109 and R113: what `EXTRACT` returns in the window of R44, where it writes no state of the assembler;
outside it the operation is refused (log 18). The window is a flag (log 2). That the one-step results are silent is
the model's choice (log 3). -/
def Obligations.ExtractReturnsNonceAndCipher : Prop :=
  ∀ s : State,
    (s.telegramValid = true → ∃ t, exec .extract s = .next t ∧
      t.result = .extracted (s.systemTitle ++ s.frameCounter) (s.payload ++ s.authTag) ∧
      specOf t = { specOf s with ready := false, err := .ok } ∧ t.telegramValid = true ∧ t.inputs = s.inputs) ∧
    (s.telegramValid = false → exec .extract s = .refused .noTelegram)

/-- R111 and R113: the same of `FORWARD`, for which no Decryptor is needed. Window, refusal and silent results: logs
2, 18, 3. -/
def Obligations.ForwardReturnsTriple : Prop :=
  ∀ s : State,
    (s.telegramValid = true → ∃ t, exec .forward s = .next t ∧
      t.result = .forwarded (s.systemTitle ++ s.frameCounter) s.payload s.authTag ∧
      specOf t = { specOf s with ready := false, err := .ok } ∧ t.telegramValid = true ∧ t.inputs = s.inputs) ∧
    (s.telegramValid = false → exec .forward s = .refused .noTelegram)

/-- R110: the lengths of what `EXTRACT` returns, in every state of the invariant in which it is defined. -/
def Obligations.ExtractedLengths : Prop :=
  ∀ (s t : State) (nonce c : Bytes), Inv s → exec .extract s = .next t → t.result = .extracted nonce c →
    nonce.length = s.titleLen.toNat + 4 ∧ c.length = s.declaredLength.toNat - 5 ∧
      4 ≤ nonce.length ∧ nonce.length ≤ 259 ∧ 12 ≤ c.length ∧ c.length ≤ 65530

/-- R112: the Forwarder's nonce is the Extractor's, and its payload and tag are the two halves of `cipherAndTag`. -/
def Obligations.ForwardIsSplitExtraction : Prop :=
  ∀ (s t u : State) (nonce c : Bytes), Inv s → exec .extract s = .next t → t.result = .extracted nonce c →
    exec .forward s = .next u →
      u.result = .forwarded nonce (c.take (c.length - 12)) (c.drop (c.length - 12))

/-! ### The Decryptor -/

/-- R119: the hex alphabet and the values of its characters. -/
def Obligations.HexAlphabet : Prop :=
  ∀ (c : Char) (v : Nat), hexValue c = some v ↔
    (v < 16 ∧ ("0123456789ABCDEF".toList[v]? = some c ∨ "0123456789abcdef".toList[v]? = some c))

/-- R119 and R128: a key text of exactly 32 hex characters constructs a Decryptor with the key and the AAD given,
whatever stands before; the others are as they were. Its `key` port carries byte 0 in bits 127 to 120, and its AAD
ports the bytes of the AAD. The handle and the silent results are the model's (logs 3, 4). -/
def Obligations.KeyloadConstructsDecryptor : Prop :=
  ∀ (s : State) (hex : HexText) (aad : Bytes), hex.length = 32 → (∀ c ∈ hex, isHexDigit c = true) →
    ∃ t d, exec (.keyload hex (.bytes aad)) s = .next t ∧
      specOf t = { specOf s with decryptors := s.decryptors ++ [d], ready := false, err := .ok } ∧
      t.result = .constructed s.decryptors.length ∧ t.telegramValid = s.telegramValid ∧ t.inputs = s.inputs ∧
      d.aad = aad ∧ aadLenPort d = aad.length ∧
      (∀ cycle i, i < aad.length → aad[i]? = some (aadRdData cycle i d)) ∧
      ∀ i, i < 16 → some ((keyPort d).extractLsb' (8 * (15 - i)) 8).toNat =
        (hex[2 * i]?.bind hexValue).bind fun hi => (hex[2 * i + 1]?.bind hexValue).map fun lo => 16 * hi + lo

/-- R119 and R120: any other key text fails the construction; no Decryptor comes of it. That earlier Decryptors stay and
the results are silent is the model's choice (logs 3, 4). -/
def Obligations.KeyloadRejectsBadKeyText : Prop :=
  ∀ (s : State) (hex : HexText) (aad : Bytes), (hex.length ≠ 32 ∨ ∃ c ∈ hex, isHexDigit c = false) →
    ∃ t, exec (.keyload hex (.bytes aad)) s = .next t ∧
      specOf t = { specOf s with ready := false, err := .ok } ∧
      t.result = .constructionFailed .keyConfigurationError ∧ t.telegramValid = s.telegramValid ∧ t.inputs = s.inputs

/-- R121: an AAD held as hex text is decoded two characters a byte, or fails the construction; with a bad key text too,
one of the two causes is reported, and which is a free value (log 7). That one `KEYLOAD` takes the AAD as text is
log 8; the handle, the earlier Decryptors kept and the silent results are the model's (logs 3, 4). -/
def Obligations.KeyloadDecodesAadText : Prop :=
  ∀ (s : State) (hex cs : HexText),
    ∃ t, exec (.keyload hex (.hexText cs)) s = .next t ∧ t.telegramValid = s.telegramValid ∧ t.inputs = s.inputs ∧
      (hex.length = 32 → (∀ c ∈ hex, isHexDigit c = true) → cs.length % 2 = 0 → (∀ c ∈ cs, isHexDigit c = true) →
        ∃ d, specOf t = { specOf s with decryptors := s.decryptors ++ [d], ready := false, err := .ok } ∧
          t.result = .constructed s.decryptors.length ∧ 2 * d.aad.length = cs.length ∧
          ∀ i, i < d.aad.length → d.aad[i]?.map BitVec.toNat =
            (cs[2 * i]?.bind hexValue).bind fun hi => (cs[2 * i + 1]?.bind hexValue).map fun lo => 16 * hi + lo) ∧
      (hex.length = 32 → (∀ c ∈ hex, isHexDigit c = true) → (cs.length % 2 = 1 ∨ ∃ c ∈ cs, isHexDigit c = false) →
        specOf t = { specOf s with ready := false, err := .ok } ∧
          t.result = .constructionFailed .aadConfigurationError) ∧
      ((hex.length ≠ 32 ∨ ∃ c ∈ hex, isHexDigit c = false) → specOf t = { specOf s with ready := false, err := .ok } ∧
        (t.result = .constructionFailed .keyConfigurationError ∨
          ((cs.length % 2 = 1 ∨ ∃ c ∈ cs, isHexDigit c = false) ∧
            t.result = .constructionFailed .aadConfigurationError)))

/-- R36 and R118: no step changes a constructed Decryptor; a step can only add one. That none is ever removed, and that
a failed `KEYLOAD` keeps the earlier ones, is the model's choice (log 4). -/
def Obligations.DecryptorsNeverChange : Prop :=
  ∀ s t : State, step s = .next t → s.decryptors <+: t.decryptors

/-- R123 and R175: the checks of `DECRYPT` in their order, and its result; nothing but the Decryptor's outputs is
written. Without a Decryptor it is refused (R115). The handle and the silent results are the model's (logs 3, 4), and
so is that one set of outputs serves every handle (R128; log 6) and holds whole a plaintext beyond the 65518 bytes of
R45 (log 25). -/
def Obligations.DecryptChecksInOrder : Prop :=
  ∀ (s : State) (h : Nat) (n c : Bytes),
    (∀ d, s.decryptors[h]? = some d → ∃ t r, exec (.decrypt h n c) s = .next t ∧
      specOf t = { specOf s with lastDecrypt := r, ready := false, err := .ok } ∧ t.result = .decrypted r ∧
      t.telegramValid = s.telegramValid ∧ t.inputs = s.inputs ∧
      (c.length < 12 → r = ⟨[], false, .inputTooShort⟩) ∧
      (12 ≤ c.length → n.length ≠ 12 → r = ⟨[], false, .nonceLength⟩) ∧
      (12 ≤ c.length → n.length = 12 →
        gcmAd d.key n d.aad (c.take (c.length - 12)) (c.drop (c.length - 12)) = none →
          r = ⟨[], false, .authenticationError⟩) ∧
      (12 ≤ c.length → n.length = 12 → ∀ p,
        gcmAd d.key n d.aad (c.take (c.length - 12)) (c.drop (c.length - 12)) = some p → r = ⟨p, true, .ok⟩)) ∧
    (s.decryptors[h]? = none → exec (.decrypt h n c) s = .refused .noDecryptor)

/-- R124 and R125: on failure there is no plaintext, and `ok` is true exactly when the status is `OK`. -/
def Obligations.FailureHasNoPlaintext : Prop :=
  ∀ (d : Decryptor) (n c : Bytes),
    ((decryptWith d n c).ok = false → (decryptWith d n c).plaintext = []) ∧
    ((decryptWith d n c).ok = true ↔ (decryptWith d n c).status = .ok)

/-- R127 item 3: on success the plaintext is as long as the ciphertext. -/
def Obligations.DecryptionPreservesLength : Prop :=
  ∀ (d : Decryptor) (n c : Bytes), (decryptWith d n c).ok = true → (decryptWith d n c).plaintext.length + 12 = c.length

/-- R146 and R145: byte `i` of `GCTR` is byte `i` of its input added to byte `i mod 16` of the cipher of the counter
block, whose last 32 bits have been counted up `i div 16` times, modulo `2^32`. -/
def Obligations.GctrAddsKeyStream : Prop :=
  ∀ (K icb : Block) (X : Bytes), (gctr K icb X).length = X.length ∧
    ∀ i, i < X.length → (gctr K icb X)[i]? = X[i]?.map fun x =>
      x ^^^ blockByte (aes128Enc K (icb.extractLsb' 32 96 ++ (icb.setWidth 32 + BitVec.ofNat 32 (i / 16)))) (i % 16)

/-- R127 item 2 and R123: what `GCM-AE` seals under a 12-byte nonce, `DECRYPT` on a Decryptor with that key and AAD
opens. R127 stops at 65518 bytes of plaintext; beyond the sizes of R149 the statement is about the model's own (log
12), and beyond 65518 bytes so is what is held (log 25). The handle is log 4, the one set of outputs log 6. -/
def Obligations.DecryptOpensWhatWasSealed : Prop :=
  ∀ (s : State) (h : Nat) (K : Block) (A iv P : Bytes), s.decryptors[h]? = some ⟨K, A⟩ → iv.length = 12 →
    (gcmAe K iv A P).2.length = 12 ∧
    ∃ t, exec (.decrypt h iv ((gcmAe K iv A P).1 ++ (gcmAe K iv A P).2)) s = .next t ∧
      t.result = .decrypted ⟨P, true, .ok⟩ ∧ t.lastDecrypt = ⟨P, true, .ok⟩

/-- R127 item 5: of two 12-byte tags for one ciphertext at most one is accepted. -/
def Obligations.ChangedTagIsDetected : Prop :=
  ∀ (d : Decryptor) (n C T T' : Bytes), T.length = 12 → T'.length = 12 → T' ≠ T →
    (decryptWith d n (C ++ T)).ok = true → decryptWith d n (C ++ T') = ⟨[], false, .authenticationError⟩

/-- R179, R36 and R37: the key is readable by no operation, and key and AAD are read by `decrypt` only: every
instruction but `DECRYPT`, and but a `PIPELINE_STEP` that reaches the Decryptor, does the same whatever the constructed
Decryptors hold. That none is removed and that a failed `KEYLOAD` keeps the earlier ones is the model's (log 4). -/
def Obligations.KeysReachOnlyTheDecryptor : Prop :=
  ∀ (i : Instr) (s t : State) (ds : List Decryptor),
    (match i with
      | .decrypt _ _ _ => False
      | .pipelineStep b _ => (feed b s).ready = false ∨ s.mode = .forward
      | _ => True) →
    ds.length = s.decryptors.length → exec i s = .next t →
      ∃ new, t.decryptors = s.decryptors ++ new ∧
        exec i { s with decryptors := ds } = .next { t with decryptors := ds ++ new }

/-! ### The composite step and the configuration -/

/-- R156 and R114: `PIPELINE_STEP` is `feed` and, at a `ready`, the sink that `MODE` selects; without a Decryptor the
Decrypt sink is refused (U5; log 18). The handle is the model's (log 4), and so is that `ready` stays beside the frame
result (log 22) and that one set of outputs serves every handle (log 6). -/
def Obligations.PipelineStepRunsTheSink : Prop :=
  ∀ (s : State) (b : Byte) (h : Nat),
    ((feed b s).ready = false → exec (.pipelineStep b h) s = .next (feed b s)) ∧
    ((feed b s).ready = true → s.mode = .forward → ∃ t, exec (.pipelineStep b h) s = .next t ∧
      t.result = .forwarded ((feed b s).systemTitle ++ (feed b s).frameCounter) (feed b s).payload (feed b s).authTag ∧
      specOf t = specOf (feed b s) ∧ t.telegramValid = (feed b s).telegramValid ∧ t.inputs = s.inputs) ∧
    ((feed b s).ready = true → s.mode = .decrypt → ∀ d, s.decryptors[h]? = some d →
      ∃ t, exec (.pipelineStep b h) s = .next t ∧
        (let r := decryptWith d ((feed b s).systemTitle ++ (feed b s).frameCounter)
          ((feed b s).payload ++ (feed b s).authTag)
         t.result = .decrypted r ∧ specOf t = { specOf (feed b s) with lastDecrypt := r }) ∧
        t.telegramValid = (feed b s).telegramValid ∧ t.inputs = s.inputs) ∧
    ((feed b s).ready = true → s.mode = .decrypt → s.decryptors[h]? = none →
      exec (.pipelineStep b h) s = .refused .noDecryptor)

/-- R127 item 2 with R105 and R156, the whole way: a sealed frame fed from `WaitStart` in Decrypt mode gives exactly one
output, on its last byte: the plaintext, with success. -/
def Obligations.SealedFrameComesOutAsPlaintext : Prop :=
  ∀ (s : State) (h : Nat) (K : Block) (A title fc P : Bytes), s.state = .waitStart → s.mode = .decrypt →
    s.decryptors[h]? = some ⟨K, A⟩ → title.length = 8 → fc.length = 4 → P.length ≤ 65518 →
      ∃ u : State, runPipeline h 0 (sealFrame K A title fc P) s =
          ([((sealFrame K A title fc P).length - 1, .frame (.decrypted ⟨P, true, .ok⟩))], .next u) ∧
        u.state = .waitStart ∧ u.systemTitle = title ∧ u.frameCounter = fc

/-- R38, R36, R37 and R115: no byte event depends on `MODE`, a key or an AAD, or changes one. -/
def Obligations.EventsIgnoreConfiguration : Prop :=
  ∀ (i : Instr) (s : State) (ds : List Decryptor) (m : Sink), i.isEvent = true →
    ∃ t, exec i s = .next t ∧ t.decryptors = s.decryptors ∧ t.mode = s.mode ∧
      exec i { s with decryptors := ds, mode := m } = .next { t with decryptors := ds, mode := m }

/-! ### Ports and instances -/

/-- R43, R44 and R50: in the window the ports show the Telegram, byte 0 in the most significant bits of a wide port. -/
def Obligations.PortsShowTheTelegram : Prop :=
  ∀ (s : State) (cycle : Nat), Inv s → s.telegramValid = true →
    titleLenPort cycle s = s.titleLen ∧ declaredLengthPort cycle s = s.declaredLength ∧
    (payloadLenPort cycle s).toNat = s.payload.length ∧
    (∀ idx : BitVec 8, idx.toNat < s.systemTitle.length → s.systemTitle[idx.toNat]? = some (titleRdData cycle idx s)) ∧
    (∀ idx : BitVec 16, idx.toNat < s.payload.length → s.payload[idx.toNat]? = some (payloadRdData cycle idx s)) ∧
    (∀ i, i < 4 → s.frameCounter[i]? = some ((frameCounterPort cycle s).extractLsb' (8 * (3 - i)) 8)) ∧
    (∀ i, i < 12 → s.authTag[i]? = some ((authTagPort cycle s).extractLsb' (8 * (11 - i)) 8))

/-- R124, R125, R128 and R164: the ports show the last result of `DECRYPT` and no more. On success `pt_len` is the
length of the plaintext and `pt_rd_data` its bytes; nothing shows after a failure or beyond the length. The codes are
those of the cause table, and the 2-bit `err` port holds the whole code. One set of outputs for every Decryptor, and
what it holds before the first `DECRYPT`, are the model's (log 6). -/
def Obligations.PlaintextPortShowsNoMore : Prop :=
  (∀ (s : State) (cycle : Nat) (idx : BitVec 16), Inv s →
    (s.lastDecrypt.ok = false → decOkPort s = false ∧ ptRdData cycle idx s = 0 ∧ ptLenPort cycle s = 0) ∧
    (s.lastDecrypt.ok = true → decOkPort s = true ∧ decStatusPort s = 0 ∧
      (s.lastDecrypt.plaintext.length ≤ 65518 →
        (ptLenPort cycle s).toNat = s.lastDecrypt.plaintext.length ∧
        (idx.toNat < s.lastDecrypt.plaintext.length →
          s.lastDecrypt.plaintext[idx.toNat]? = some (ptRdData cycle idx s)))) ∧
    ((ptLenPort cycle s).toNat ≤ idx.toNat → ptRdData cycle idx s = 0) ∧
    (s.lastDecrypt.status = .ok → decStatusPort s = 0) ∧
    (s.lastDecrypt.status = .authenticationError → decStatusPort s = 5) ∧
    (s.lastDecrypt.status = .nonceLength → decStatusPort s = 7) ∧
    (s.lastDecrypt.status = .inputTooShort → decStatusPort s = 8) ∧
    (errPort s).toNat = s.err.code.toNat ∧
    (s.err = .ok → errPort s = 0) ∧ (s.err = .badSep82 → errPort s = 1) ∧ (s.err = .badSep30 → errPort s = 2) ∧
    (s.err = .lengthUnderflow → errPort s = 3)) ∧
  Cause.keyConfigurationError.code = 4 ∧ Cause.transportError.code = 6 ∧ Cause.aadConfigurationError.code = 9

/-- R43 and R10: one clock edge: `rst` is `RESET` whatever byte is presented, `in_valid` is one `feed`, neither
changes no state. R128: `dec_start` is `DECRYPT` on the Telegram in the buffers, `dec_done` is up when it has finished
and down after the next clock edge, and `dec_ok` and `dec_status` are then its result. Outside the window (R109) and
without a Decryptor (R115) `dec_start` is refused (log 18). That the window is a flag, that a pulse is one step and
that the Decryptor is named by a handle are the model's (logs 2, 4, 15, 21), and so is that one set of outputs serves
every handle (log 6). -/
def Obligations.ClockEdgeIsOneInvocation : Prop :=
  ∀ (s : State) (p : PortIn),
    (p.rst = true → clockEdge p s = exec .reset s) ∧
    (p.rst = false → p.inValid = true → clockEdge p s = .next (feed p.inByte s)) ∧
    (p.rst = false → p.inValid = false → ∃ t, clockEdge p s = .next t ∧
      specOf t = { specOf s with ready := false, err := .ok } ∧ t.telegramValid = s.telegramValid) ∧
    (∃ t, clockEdge p s = .next t ∧ decDonePort t = false) ∧
    ∀ h : Nat,
      (s.telegramValid = false → decStart h s = .refused .noTelegram) ∧
      (s.telegramValid = true → s.decryptors[h]? = none → decStart h s = .refused .noDecryptor) ∧
      (s.telegramValid = true → ∀ d, s.decryptors[h]? = some d →
        ∃ t, decStart h s = .next t ∧
          exec (.decrypt h (s.systemTitle ++ s.frameCounter) (s.payload ++ s.authTag)) s = .next t ∧
          decDonePort t = true ∧
          (let r := decryptWith d (s.systemTitle ++ s.frameCounter) (s.payload ++ s.authTag)
           decOkPort t = r.ok ∧ decStatusPort t = r.status.code ∧ t.lastDecrypt = r))

/-- R63 and R183: a step of one instance leaves the others as they were, and steps of two instances commute. -/
def Obligations.InstancesDoNotInterfere : Prop :=
  ∀ (y z : System) (i : Nat), y.stepAt i = some z →
    z.parts.length = y.parts.length ∧
    ∀ j, j ≠ i → z.parts[j]? = y.parts[j]? ∧
      ∀ w, z.stepAt j = some w → ∃ z', y.stepAt j = some z' ∧ z'.stepAt i = some w
end

