-- ==== Sys2Proof/Laws/Decode.lean ====
section
/-! SUPPORT. The opcode map: its rows do not collide, its codes agree, and what the decoder does with each state. -/

namespace Sys2Proof.Laws

open Sys2Proof

/-- Two rows of the opcode map are never selected by one selector, unless the earlier is a full-mask row and the later
the default of its state (R73). -/
theorem eventRows_disjoint :
    eventRows.Pairwise fun r q => r.pattern &&& q.mask ≠ q.pattern ∨ (r.mask = 0xFFF ∧ q.mask = 0xF00) := by decide

/-- A state's code names it (R75). -/
@[simp] theorem ofCode_code (st : ParserState) : ParserState.ofCode st.code = some st := by cases st <;> decide

/-- The code field of a selector (R71). -/
@[simp] theorem selectorCode_selector (st : ParserState) (b : Byte) : selectorCode (selector st b) = st.code := by
  simp only [selectorCode, selector]
  ext i hi
  simp only [BitVec.getElem_extractLsb', BitVec.getLsbD_append]
  have : ¬ 8 + i < 8 := by omega
  simp [this, BitVec.getLsbD_eq_getElem hi]

/-- The byte field of a selector (R71). -/
@[simp] theorem selectorByte_selector (st : ParserState) (b : Byte) : selectorByte (selector st b) = b := by
  simp only [selectorByte, selector]
  ext i hi
  simp only [BitVec.getElem_extractLsb', BitVec.getLsbD_append]
  simp [hi]

/-- A host operation has no encoding, a byte event has one (R83). -/
theorem encode_isSome (i : Instr) : (encode i).isSome = i.isEvent := by cases i <;> rfl

end Sys2Proof.Laws
end

