-- ==== Sys2Proof/Laws/State.lean ====
section
/-! SUPPORT. One lemma per field per named update of State, each true by unfolding once, so that no later proof unfolds
a record update. -/

namespace Sys2Proof.Machine

section giveResults

@[simp] theorem giveResults_state (r : Bool) (e : Cause) (h : HostResult) (s : State) : (giveResults r e h s).state = s.state := rfl
@[simp] theorem giveResults_titleLen (r : Bool) (e : Cause) (h : HostResult) (s : State) : (giveResults r e h s).titleLen = s.titleLen := rfl
@[simp] theorem giveResults_declaredLength (r : Bool) (e : Cause) (h : HostResult) (s : State) : (giveResults r e h s).declaredLength = s.declaredLength := rfl
@[simp] theorem giveResults_pos (r : Bool) (e : Cause) (h : HostResult) (s : State) : (giveResults r e h s).pos = s.pos := rfl
@[simp] theorem giveResults_target (r : Bool) (e : Cause) (h : HostResult) (s : State) : (giveResults r e h s).target = s.target := rfl
@[simp] theorem giveResults_systemTitle (r : Bool) (e : Cause) (h : HostResult) (s : State) : (giveResults r e h s).systemTitle = s.systemTitle := rfl
@[simp] theorem giveResults_frameCounter (r : Bool) (e : Cause) (h : HostResult) (s : State) : (giveResults r e h s).frameCounter = s.frameCounter := rfl
@[simp] theorem giveResults_payload (r : Bool) (e : Cause) (h : HostResult) (s : State) : (giveResults r e h s).payload = s.payload := rfl
@[simp] theorem giveResults_authTag (r : Bool) (e : Cause) (h : HostResult) (s : State) : (giveResults r e h s).authTag = s.authTag := rfl
@[simp] theorem giveResults_ready (r : Bool) (e : Cause) (h : HostResult) (s : State) : (giveResults r e h s).ready = r := rfl
@[simp] theorem giveResults_err (r : Bool) (e : Cause) (h : HostResult) (s : State) : (giveResults r e h s).err = e := rfl
@[simp] theorem giveResults_result (r : Bool) (e : Cause) (h : HostResult) (s : State) : (giveResults r e h s).result = h := rfl
@[simp] theorem giveResults_decryptors (r : Bool) (e : Cause) (h : HostResult) (s : State) : (giveResults r e h s).decryptors = s.decryptors := rfl
@[simp] theorem giveResults_mode (r : Bool) (e : Cause) (h : HostResult) (s : State) : (giveResults r e h s).mode = s.mode := rfl
@[simp] theorem giveResults_lastDecrypt (r : Bool) (e : Cause) (h : HostResult) (s : State) : (giveResults r e h s).lastDecrypt = s.lastDecrypt := rfl
@[simp] theorem giveResults_telegramValid (r : Bool) (e : Cause) (h : HostResult) (s : State) : (giveResults r e h s).telegramValid = s.telegramValid := rfl
@[simp] theorem giveResults_inputs (r : Bool) (e : Cause) (h : HostResult) (s : State) : (giveResults r e h s).inputs = s.inputs := rfl

end giveResults

section giveNothing

@[simp] theorem giveNothing_state (s : State) : (giveNothing s).state = s.state := rfl
@[simp] theorem giveNothing_titleLen (s : State) : (giveNothing s).titleLen = s.titleLen := rfl
@[simp] theorem giveNothing_declaredLength (s : State) : (giveNothing s).declaredLength = s.declaredLength := rfl
@[simp] theorem giveNothing_pos (s : State) : (giveNothing s).pos = s.pos := rfl
@[simp] theorem giveNothing_target (s : State) : (giveNothing s).target = s.target := rfl
@[simp] theorem giveNothing_systemTitle (s : State) : (giveNothing s).systemTitle = s.systemTitle := rfl
@[simp] theorem giveNothing_frameCounter (s : State) : (giveNothing s).frameCounter = s.frameCounter := rfl
@[simp] theorem giveNothing_payload (s : State) : (giveNothing s).payload = s.payload := rfl
@[simp] theorem giveNothing_authTag (s : State) : (giveNothing s).authTag = s.authTag := rfl
@[simp] theorem giveNothing_ready (s : State) : (giveNothing s).ready = false := rfl
@[simp] theorem giveNothing_err (s : State) : (giveNothing s).err = .ok := rfl
@[simp] theorem giveNothing_result (s : State) : (giveNothing s).result = .none := rfl
@[simp] theorem giveNothing_decryptors (s : State) : (giveNothing s).decryptors = s.decryptors := rfl
@[simp] theorem giveNothing_mode (s : State) : (giveNothing s).mode = s.mode := rfl
@[simp] theorem giveNothing_lastDecrypt (s : State) : (giveNothing s).lastDecrypt = s.lastDecrypt := rfl
@[simp] theorem giveNothing_telegramValid (s : State) : (giveNothing s).telegramValid = s.telegramValid := rfl
@[simp] theorem giveNothing_inputs (s : State) : (giveNothing s).inputs = s.inputs := rfl

end giveNothing

section enter

@[simp] theorem enter_state (st : ParserState) (s : State) : (enter st s).state = st := rfl
@[simp] theorem enter_titleLen (st : ParserState) (s : State) : (enter st s).titleLen = s.titleLen := rfl
@[simp] theorem enter_declaredLength (st : ParserState) (s : State) : (enter st s).declaredLength = s.declaredLength := rfl
@[simp] theorem enter_pos (st : ParserState) (s : State) : (enter st s).pos = s.pos := rfl
@[simp] theorem enter_target (st : ParserState) (s : State) : (enter st s).target = s.target := rfl
@[simp] theorem enter_systemTitle (st : ParserState) (s : State) : (enter st s).systemTitle = s.systemTitle := rfl
@[simp] theorem enter_frameCounter (st : ParserState) (s : State) : (enter st s).frameCounter = s.frameCounter := rfl
@[simp] theorem enter_payload (st : ParserState) (s : State) : (enter st s).payload = s.payload := rfl
@[simp] theorem enter_authTag (st : ParserState) (s : State) : (enter st s).authTag = s.authTag := rfl
@[simp] theorem enter_ready (st : ParserState) (s : State) : (enter st s).ready = s.ready := rfl
@[simp] theorem enter_err (st : ParserState) (s : State) : (enter st s).err = s.err := rfl
@[simp] theorem enter_result (st : ParserState) (s : State) : (enter st s).result = s.result := rfl
@[simp] theorem enter_decryptors (st : ParserState) (s : State) : (enter st s).decryptors = s.decryptors := rfl
@[simp] theorem enter_mode (st : ParserState) (s : State) : (enter st s).mode = s.mode := rfl
@[simp] theorem enter_lastDecrypt (st : ParserState) (s : State) : (enter st s).lastDecrypt = s.lastDecrypt := rfl
@[simp] theorem enter_telegramValid (st : ParserState) (s : State) : (enter st s).telegramValid = s.telegramValid := rfl
@[simp] theorem enter_inputs (st : ParserState) (s : State) : (enter st s).inputs = s.inputs := rfl

end enter

section countByte

@[simp] theorem countByte_state (s : State) : (countByte s).state = s.state := rfl
@[simp] theorem countByte_titleLen (s : State) : (countByte s).titleLen = s.titleLen := rfl
@[simp] theorem countByte_declaredLength (s : State) : (countByte s).declaredLength = s.declaredLength := rfl
@[simp] theorem countByte_pos (s : State) : (countByte s).pos = s.pos + 1 := rfl
@[simp] theorem countByte_target (s : State) : (countByte s).target = s.target := rfl
@[simp] theorem countByte_systemTitle (s : State) : (countByte s).systemTitle = s.systemTitle := rfl
@[simp] theorem countByte_frameCounter (s : State) : (countByte s).frameCounter = s.frameCounter := rfl
@[simp] theorem countByte_payload (s : State) : (countByte s).payload = s.payload := rfl
@[simp] theorem countByte_authTag (s : State) : (countByte s).authTag = s.authTag := rfl
@[simp] theorem countByte_ready (s : State) : (countByte s).ready = s.ready := rfl
@[simp] theorem countByte_err (s : State) : (countByte s).err = s.err := rfl
@[simp] theorem countByte_result (s : State) : (countByte s).result = s.result := rfl
@[simp] theorem countByte_decryptors (s : State) : (countByte s).decryptors = s.decryptors := rfl
@[simp] theorem countByte_mode (s : State) : (countByte s).mode = s.mode := rfl
@[simp] theorem countByte_lastDecrypt (s : State) : (countByte s).lastDecrypt = s.lastDecrypt := rfl
@[simp] theorem countByte_telegramValid (s : State) : (countByte s).telegramValid = s.telegramValid := rfl
@[simp] theorem countByte_inputs (s : State) : (countByte s).inputs = s.inputs := rfl

end countByte

section setTarget

@[simp] theorem setTarget_state (p : Position) (s : State) : (setTarget p s).state = s.state := rfl
@[simp] theorem setTarget_titleLen (p : Position) (s : State) : (setTarget p s).titleLen = s.titleLen := rfl
@[simp] theorem setTarget_declaredLength (p : Position) (s : State) : (setTarget p s).declaredLength = s.declaredLength := rfl
@[simp] theorem setTarget_pos (p : Position) (s : State) : (setTarget p s).pos = s.pos := rfl
@[simp] theorem setTarget_target (p : Position) (s : State) : (setTarget p s).target = p := rfl
@[simp] theorem setTarget_systemTitle (p : Position) (s : State) : (setTarget p s).systemTitle = s.systemTitle := rfl
@[simp] theorem setTarget_frameCounter (p : Position) (s : State) : (setTarget p s).frameCounter = s.frameCounter := rfl
@[simp] theorem setTarget_payload (p : Position) (s : State) : (setTarget p s).payload = s.payload := rfl
@[simp] theorem setTarget_authTag (p : Position) (s : State) : (setTarget p s).authTag = s.authTag := rfl
@[simp] theorem setTarget_ready (p : Position) (s : State) : (setTarget p s).ready = s.ready := rfl
@[simp] theorem setTarget_err (p : Position) (s : State) : (setTarget p s).err = s.err := rfl
@[simp] theorem setTarget_result (p : Position) (s : State) : (setTarget p s).result = s.result := rfl
@[simp] theorem setTarget_decryptors (p : Position) (s : State) : (setTarget p s).decryptors = s.decryptors := rfl
@[simp] theorem setTarget_mode (p : Position) (s : State) : (setTarget p s).mode = s.mode := rfl
@[simp] theorem setTarget_lastDecrypt (p : Position) (s : State) : (setTarget p s).lastDecrypt = s.lastDecrypt := rfl
@[simp] theorem setTarget_telegramValid (p : Position) (s : State) : (setTarget p s).telegramValid = s.telegramValid := rfl
@[simp] theorem setTarget_inputs (p : Position) (s : State) : (setTarget p s).inputs = s.inputs := rfl

end setTarget

section advanceTarget

@[simp] theorem advanceTarget_state (n : Nat) (s : State) : (advanceTarget n s).state = s.state := rfl
@[simp] theorem advanceTarget_titleLen (n : Nat) (s : State) : (advanceTarget n s).titleLen = s.titleLen := rfl
@[simp] theorem advanceTarget_declaredLength (n : Nat) (s : State) : (advanceTarget n s).declaredLength = s.declaredLength := rfl
@[simp] theorem advanceTarget_pos (n : Nat) (s : State) : (advanceTarget n s).pos = s.pos := rfl
@[simp] theorem advanceTarget_target (n : Nat) (s : State) : (advanceTarget n s).target = s.target + BitVec.ofNat 17 n := rfl
@[simp] theorem advanceTarget_systemTitle (n : Nat) (s : State) : (advanceTarget n s).systemTitle = s.systemTitle := rfl
@[simp] theorem advanceTarget_frameCounter (n : Nat) (s : State) : (advanceTarget n s).frameCounter = s.frameCounter := rfl
@[simp] theorem advanceTarget_payload (n : Nat) (s : State) : (advanceTarget n s).payload = s.payload := rfl
@[simp] theorem advanceTarget_authTag (n : Nat) (s : State) : (advanceTarget n s).authTag = s.authTag := rfl
@[simp] theorem advanceTarget_ready (n : Nat) (s : State) : (advanceTarget n s).ready = s.ready := rfl
@[simp] theorem advanceTarget_err (n : Nat) (s : State) : (advanceTarget n s).err = s.err := rfl
@[simp] theorem advanceTarget_result (n : Nat) (s : State) : (advanceTarget n s).result = s.result := rfl
@[simp] theorem advanceTarget_decryptors (n : Nat) (s : State) : (advanceTarget n s).decryptors = s.decryptors := rfl
@[simp] theorem advanceTarget_mode (n : Nat) (s : State) : (advanceTarget n s).mode = s.mode := rfl
@[simp] theorem advanceTarget_lastDecrypt (n : Nat) (s : State) : (advanceTarget n s).lastDecrypt = s.lastDecrypt := rfl
@[simp] theorem advanceTarget_telegramValid (n : Nat) (s : State) : (advanceTarget n s).telegramValid = s.telegramValid := rfl
@[simp] theorem advanceTarget_inputs (n : Nat) (s : State) : (advanceTarget n s).inputs = s.inputs := rfl

end advanceTarget

section setTitleLen

@[simp] theorem setTitleLen_state (b : Byte) (s : State) : (setTitleLen b s).state = s.state := rfl
@[simp] theorem setTitleLen_titleLen (b : Byte) (s : State) : (setTitleLen b s).titleLen = b := rfl
@[simp] theorem setTitleLen_declaredLength (b : Byte) (s : State) : (setTitleLen b s).declaredLength = s.declaredLength := rfl
@[simp] theorem setTitleLen_pos (b : Byte) (s : State) : (setTitleLen b s).pos = s.pos := rfl
@[simp] theorem setTitleLen_target (b : Byte) (s : State) : (setTitleLen b s).target = s.target := rfl
@[simp] theorem setTitleLen_systemTitle (b : Byte) (s : State) : (setTitleLen b s).systemTitle = s.systemTitle := rfl
@[simp] theorem setTitleLen_frameCounter (b : Byte) (s : State) : (setTitleLen b s).frameCounter = s.frameCounter := rfl
@[simp] theorem setTitleLen_payload (b : Byte) (s : State) : (setTitleLen b s).payload = s.payload := rfl
@[simp] theorem setTitleLen_authTag (b : Byte) (s : State) : (setTitleLen b s).authTag = s.authTag := rfl
@[simp] theorem setTitleLen_ready (b : Byte) (s : State) : (setTitleLen b s).ready = s.ready := rfl
@[simp] theorem setTitleLen_err (b : Byte) (s : State) : (setTitleLen b s).err = s.err := rfl
@[simp] theorem setTitleLen_result (b : Byte) (s : State) : (setTitleLen b s).result = s.result := rfl
@[simp] theorem setTitleLen_decryptors (b : Byte) (s : State) : (setTitleLen b s).decryptors = s.decryptors := rfl
@[simp] theorem setTitleLen_mode (b : Byte) (s : State) : (setTitleLen b s).mode = s.mode := rfl
@[simp] theorem setTitleLen_lastDecrypt (b : Byte) (s : State) : (setTitleLen b s).lastDecrypt = s.lastDecrypt := rfl
@[simp] theorem setTitleLen_telegramValid (b : Byte) (s : State) : (setTitleLen b s).telegramValid = s.telegramValid := rfl
@[simp] theorem setTitleLen_inputs (b : Byte) (s : State) : (setTitleLen b s).inputs = s.inputs := rfl

end setTitleLen

section setDeclaredLength

@[simp] theorem setDeclaredLength_state (n : BitVec 16) (s : State) : (setDeclaredLength n s).state = s.state := rfl
@[simp] theorem setDeclaredLength_titleLen (n : BitVec 16) (s : State) : (setDeclaredLength n s).titleLen = s.titleLen := rfl
@[simp] theorem setDeclaredLength_declaredLength (n : BitVec 16) (s : State) : (setDeclaredLength n s).declaredLength = n := rfl
@[simp] theorem setDeclaredLength_pos (n : BitVec 16) (s : State) : (setDeclaredLength n s).pos = s.pos := rfl
@[simp] theorem setDeclaredLength_target (n : BitVec 16) (s : State) : (setDeclaredLength n s).target = s.target := rfl
@[simp] theorem setDeclaredLength_systemTitle (n : BitVec 16) (s : State) : (setDeclaredLength n s).systemTitle = s.systemTitle := rfl
@[simp] theorem setDeclaredLength_frameCounter (n : BitVec 16) (s : State) : (setDeclaredLength n s).frameCounter = s.frameCounter := rfl
@[simp] theorem setDeclaredLength_payload (n : BitVec 16) (s : State) : (setDeclaredLength n s).payload = s.payload := rfl
@[simp] theorem setDeclaredLength_authTag (n : BitVec 16) (s : State) : (setDeclaredLength n s).authTag = s.authTag := rfl
@[simp] theorem setDeclaredLength_ready (n : BitVec 16) (s : State) : (setDeclaredLength n s).ready = s.ready := rfl
@[simp] theorem setDeclaredLength_err (n : BitVec 16) (s : State) : (setDeclaredLength n s).err = s.err := rfl
@[simp] theorem setDeclaredLength_result (n : BitVec 16) (s : State) : (setDeclaredLength n s).result = s.result := rfl
@[simp] theorem setDeclaredLength_decryptors (n : BitVec 16) (s : State) : (setDeclaredLength n s).decryptors = s.decryptors := rfl
@[simp] theorem setDeclaredLength_mode (n : BitVec 16) (s : State) : (setDeclaredLength n s).mode = s.mode := rfl
@[simp] theorem setDeclaredLength_lastDecrypt (n : BitVec 16) (s : State) : (setDeclaredLength n s).lastDecrypt = s.lastDecrypt := rfl
@[simp] theorem setDeclaredLength_telegramValid (n : BitVec 16) (s : State) : (setDeclaredLength n s).telegramValid = s.telegramValid := rfl
@[simp] theorem setDeclaredLength_inputs (n : BitVec 16) (s : State) : (setDeclaredLength n s).inputs = s.inputs := rfl

end setDeclaredLength

section appendTitle

@[simp] theorem appendTitle_state (b : Byte) (s : State) : (appendTitle b s).state = s.state := rfl
@[simp] theorem appendTitle_titleLen (b : Byte) (s : State) : (appendTitle b s).titleLen = s.titleLen := rfl
@[simp] theorem appendTitle_declaredLength (b : Byte) (s : State) : (appendTitle b s).declaredLength = s.declaredLength := rfl
@[simp] theorem appendTitle_pos (b : Byte) (s : State) : (appendTitle b s).pos = s.pos := rfl
@[simp] theorem appendTitle_target (b : Byte) (s : State) : (appendTitle b s).target = s.target := rfl
@[simp] theorem appendTitle_systemTitle (b : Byte) (s : State) : (appendTitle b s).systemTitle = s.systemTitle ++ [b] := rfl
@[simp] theorem appendTitle_frameCounter (b : Byte) (s : State) : (appendTitle b s).frameCounter = s.frameCounter := rfl
@[simp] theorem appendTitle_payload (b : Byte) (s : State) : (appendTitle b s).payload = s.payload := rfl
@[simp] theorem appendTitle_authTag (b : Byte) (s : State) : (appendTitle b s).authTag = s.authTag := rfl
@[simp] theorem appendTitle_ready (b : Byte) (s : State) : (appendTitle b s).ready = s.ready := rfl
@[simp] theorem appendTitle_err (b : Byte) (s : State) : (appendTitle b s).err = s.err := rfl
@[simp] theorem appendTitle_result (b : Byte) (s : State) : (appendTitle b s).result = s.result := rfl
@[simp] theorem appendTitle_decryptors (b : Byte) (s : State) : (appendTitle b s).decryptors = s.decryptors := rfl
@[simp] theorem appendTitle_mode (b : Byte) (s : State) : (appendTitle b s).mode = s.mode := rfl
@[simp] theorem appendTitle_lastDecrypt (b : Byte) (s : State) : (appendTitle b s).lastDecrypt = s.lastDecrypt := rfl
@[simp] theorem appendTitle_telegramValid (b : Byte) (s : State) : (appendTitle b s).telegramValid = s.telegramValid := rfl
@[simp] theorem appendTitle_inputs (b : Byte) (s : State) : (appendTitle b s).inputs = s.inputs := rfl

end appendTitle

section appendCounter

@[simp] theorem appendCounter_state (b : Byte) (s : State) : (appendCounter b s).state = s.state := rfl
@[simp] theorem appendCounter_titleLen (b : Byte) (s : State) : (appendCounter b s).titleLen = s.titleLen := rfl
@[simp] theorem appendCounter_declaredLength (b : Byte) (s : State) : (appendCounter b s).declaredLength = s.declaredLength := rfl
@[simp] theorem appendCounter_pos (b : Byte) (s : State) : (appendCounter b s).pos = s.pos := rfl
@[simp] theorem appendCounter_target (b : Byte) (s : State) : (appendCounter b s).target = s.target := rfl
@[simp] theorem appendCounter_systemTitle (b : Byte) (s : State) : (appendCounter b s).systemTitle = s.systemTitle := rfl
@[simp] theorem appendCounter_frameCounter (b : Byte) (s : State) : (appendCounter b s).frameCounter = s.frameCounter ++ [b] := rfl
@[simp] theorem appendCounter_payload (b : Byte) (s : State) : (appendCounter b s).payload = s.payload := rfl
@[simp] theorem appendCounter_authTag (b : Byte) (s : State) : (appendCounter b s).authTag = s.authTag := rfl
@[simp] theorem appendCounter_ready (b : Byte) (s : State) : (appendCounter b s).ready = s.ready := rfl
@[simp] theorem appendCounter_err (b : Byte) (s : State) : (appendCounter b s).err = s.err := rfl
@[simp] theorem appendCounter_result (b : Byte) (s : State) : (appendCounter b s).result = s.result := rfl
@[simp] theorem appendCounter_decryptors (b : Byte) (s : State) : (appendCounter b s).decryptors = s.decryptors := rfl
@[simp] theorem appendCounter_mode (b : Byte) (s : State) : (appendCounter b s).mode = s.mode := rfl
@[simp] theorem appendCounter_lastDecrypt (b : Byte) (s : State) : (appendCounter b s).lastDecrypt = s.lastDecrypt := rfl
@[simp] theorem appendCounter_telegramValid (b : Byte) (s : State) : (appendCounter b s).telegramValid = s.telegramValid := rfl
@[simp] theorem appendCounter_inputs (b : Byte) (s : State) : (appendCounter b s).inputs = s.inputs := rfl

end appendCounter

section appendPayload

@[simp] theorem appendPayload_state (b : Byte) (s : State) : (appendPayload b s).state = s.state := rfl
@[simp] theorem appendPayload_titleLen (b : Byte) (s : State) : (appendPayload b s).titleLen = s.titleLen := rfl
@[simp] theorem appendPayload_declaredLength (b : Byte) (s : State) : (appendPayload b s).declaredLength = s.declaredLength := rfl
@[simp] theorem appendPayload_pos (b : Byte) (s : State) : (appendPayload b s).pos = s.pos := rfl
@[simp] theorem appendPayload_target (b : Byte) (s : State) : (appendPayload b s).target = s.target := rfl
@[simp] theorem appendPayload_systemTitle (b : Byte) (s : State) : (appendPayload b s).systemTitle = s.systemTitle := rfl
@[simp] theorem appendPayload_frameCounter (b : Byte) (s : State) : (appendPayload b s).frameCounter = s.frameCounter := rfl
@[simp] theorem appendPayload_payload (b : Byte) (s : State) : (appendPayload b s).payload = s.payload ++ [b] := rfl
@[simp] theorem appendPayload_authTag (b : Byte) (s : State) : (appendPayload b s).authTag = s.authTag := rfl
@[simp] theorem appendPayload_ready (b : Byte) (s : State) : (appendPayload b s).ready = s.ready := rfl
@[simp] theorem appendPayload_err (b : Byte) (s : State) : (appendPayload b s).err = s.err := rfl
@[simp] theorem appendPayload_result (b : Byte) (s : State) : (appendPayload b s).result = s.result := rfl
@[simp] theorem appendPayload_decryptors (b : Byte) (s : State) : (appendPayload b s).decryptors = s.decryptors := rfl
@[simp] theorem appendPayload_mode (b : Byte) (s : State) : (appendPayload b s).mode = s.mode := rfl
@[simp] theorem appendPayload_lastDecrypt (b : Byte) (s : State) : (appendPayload b s).lastDecrypt = s.lastDecrypt := rfl
@[simp] theorem appendPayload_telegramValid (b : Byte) (s : State) : (appendPayload b s).telegramValid = s.telegramValid := rfl
@[simp] theorem appendPayload_inputs (b : Byte) (s : State) : (appendPayload b s).inputs = s.inputs := rfl

end appendPayload

section appendTag

@[simp] theorem appendTag_state (b : Byte) (s : State) : (appendTag b s).state = s.state := rfl
@[simp] theorem appendTag_titleLen (b : Byte) (s : State) : (appendTag b s).titleLen = s.titleLen := rfl
@[simp] theorem appendTag_declaredLength (b : Byte) (s : State) : (appendTag b s).declaredLength = s.declaredLength := rfl
@[simp] theorem appendTag_pos (b : Byte) (s : State) : (appendTag b s).pos = s.pos := rfl
@[simp] theorem appendTag_target (b : Byte) (s : State) : (appendTag b s).target = s.target := rfl
@[simp] theorem appendTag_systemTitle (b : Byte) (s : State) : (appendTag b s).systemTitle = s.systemTitle := rfl
@[simp] theorem appendTag_frameCounter (b : Byte) (s : State) : (appendTag b s).frameCounter = s.frameCounter := rfl
@[simp] theorem appendTag_payload (b : Byte) (s : State) : (appendTag b s).payload = s.payload := rfl
@[simp] theorem appendTag_authTag (b : Byte) (s : State) : (appendTag b s).authTag = s.authTag ++ [b] := rfl
@[simp] theorem appendTag_ready (b : Byte) (s : State) : (appendTag b s).ready = s.ready := rfl
@[simp] theorem appendTag_err (b : Byte) (s : State) : (appendTag b s).err = s.err := rfl
@[simp] theorem appendTag_result (b : Byte) (s : State) : (appendTag b s).result = s.result := rfl
@[simp] theorem appendTag_decryptors (b : Byte) (s : State) : (appendTag b s).decryptors = s.decryptors := rfl
@[simp] theorem appendTag_mode (b : Byte) (s : State) : (appendTag b s).mode = s.mode := rfl
@[simp] theorem appendTag_lastDecrypt (b : Byte) (s : State) : (appendTag b s).lastDecrypt = s.lastDecrypt := rfl
@[simp] theorem appendTag_telegramValid (b : Byte) (s : State) : (appendTag b s).telegramValid = s.telegramValid := rfl
@[simp] theorem appendTag_inputs (b : Byte) (s : State) : (appendTag b s).inputs = s.inputs := rfl

end appendTag

section clearTelegram

@[simp] theorem clearTelegram_state (s : State) : (clearTelegram s).state = s.state := rfl
@[simp] theorem clearTelegram_titleLen (s : State) : (clearTelegram s).titleLen = 0 := rfl
@[simp] theorem clearTelegram_declaredLength (s : State) : (clearTelegram s).declaredLength = 0 := rfl
@[simp] theorem clearTelegram_pos (s : State) : (clearTelegram s).pos = 0 := rfl
@[simp] theorem clearTelegram_target (s : State) : (clearTelegram s).target = 0 := rfl
@[simp] theorem clearTelegram_systemTitle (s : State) : (clearTelegram s).systemTitle = [] := rfl
@[simp] theorem clearTelegram_frameCounter (s : State) : (clearTelegram s).frameCounter = [] := rfl
@[simp] theorem clearTelegram_payload (s : State) : (clearTelegram s).payload = [] := rfl
@[simp] theorem clearTelegram_authTag (s : State) : (clearTelegram s).authTag = [] := rfl
@[simp] theorem clearTelegram_ready (s : State) : (clearTelegram s).ready = s.ready := rfl
@[simp] theorem clearTelegram_err (s : State) : (clearTelegram s).err = s.err := rfl
@[simp] theorem clearTelegram_result (s : State) : (clearTelegram s).result = s.result := rfl
@[simp] theorem clearTelegram_decryptors (s : State) : (clearTelegram s).decryptors = s.decryptors := rfl
@[simp] theorem clearTelegram_mode (s : State) : (clearTelegram s).mode = s.mode := rfl
@[simp] theorem clearTelegram_lastDecrypt (s : State) : (clearTelegram s).lastDecrypt = s.lastDecrypt := rfl
@[simp] theorem clearTelegram_telegramValid (s : State) : (clearTelegram s).telegramValid = false := rfl
@[simp] theorem clearTelegram_inputs (s : State) : (clearTelegram s).inputs = s.inputs := rfl

end clearTelegram

section raiseFramingError

@[simp] theorem raiseFramingError_state (c : Cause) (s : State) : (raiseFramingError c s).state = .waitStart := rfl
@[simp] theorem raiseFramingError_titleLen (c : Cause) (s : State) : (raiseFramingError c s).titleLen = s.titleLen := rfl
@[simp] theorem raiseFramingError_declaredLength (c : Cause) (s : State) : (raiseFramingError c s).declaredLength = s.declaredLength := rfl
@[simp] theorem raiseFramingError_pos (c : Cause) (s : State) : (raiseFramingError c s).pos = s.pos := rfl
@[simp] theorem raiseFramingError_target (c : Cause) (s : State) : (raiseFramingError c s).target = s.target := rfl
@[simp] theorem raiseFramingError_systemTitle (c : Cause) (s : State) : (raiseFramingError c s).systemTitle = s.systemTitle := rfl
@[simp] theorem raiseFramingError_frameCounter (c : Cause) (s : State) : (raiseFramingError c s).frameCounter = s.frameCounter := rfl
@[simp] theorem raiseFramingError_payload (c : Cause) (s : State) : (raiseFramingError c s).payload = s.payload := rfl
@[simp] theorem raiseFramingError_authTag (c : Cause) (s : State) : (raiseFramingError c s).authTag = s.authTag := rfl
@[simp] theorem raiseFramingError_ready (c : Cause) (s : State) : (raiseFramingError c s).ready = false := rfl
@[simp] theorem raiseFramingError_err (c : Cause) (s : State) : (raiseFramingError c s).err = c := rfl
@[simp] theorem raiseFramingError_result (c : Cause) (s : State) : (raiseFramingError c s).result = .none := rfl
@[simp] theorem raiseFramingError_decryptors (c : Cause) (s : State) : (raiseFramingError c s).decryptors = s.decryptors := rfl
@[simp] theorem raiseFramingError_mode (c : Cause) (s : State) : (raiseFramingError c s).mode = s.mode := rfl
@[simp] theorem raiseFramingError_lastDecrypt (c : Cause) (s : State) : (raiseFramingError c s).lastDecrypt = s.lastDecrypt := rfl
@[simp] theorem raiseFramingError_telegramValid (c : Cause) (s : State) : (raiseFramingError c s).telegramValid = s.telegramValid := rfl
@[simp] theorem raiseFramingError_inputs (c : Cause) (s : State) : (raiseFramingError c s).inputs = s.inputs := rfl

end raiseFramingError

section deliver

@[simp] theorem deliver_state (s : State) : (deliver s).state = .waitStart := rfl
@[simp] theorem deliver_titleLen (s : State) : (deliver s).titleLen = s.titleLen := rfl
@[simp] theorem deliver_declaredLength (s : State) : (deliver s).declaredLength = s.declaredLength := rfl
@[simp] theorem deliver_pos (s : State) : (deliver s).pos = s.pos := rfl
@[simp] theorem deliver_target (s : State) : (deliver s).target = s.target := rfl
@[simp] theorem deliver_systemTitle (s : State) : (deliver s).systemTitle = s.systemTitle := rfl
@[simp] theorem deliver_frameCounter (s : State) : (deliver s).frameCounter = s.frameCounter := rfl
@[simp] theorem deliver_payload (s : State) : (deliver s).payload = s.payload := rfl
@[simp] theorem deliver_authTag (s : State) : (deliver s).authTag = s.authTag := rfl
@[simp] theorem deliver_ready (s : State) : (deliver s).ready = true := rfl
@[simp] theorem deliver_err (s : State) : (deliver s).err = .ok := rfl
@[simp] theorem deliver_result (s : State) : (deliver s).result = .none := rfl
@[simp] theorem deliver_decryptors (s : State) : (deliver s).decryptors = s.decryptors := rfl
@[simp] theorem deliver_mode (s : State) : (deliver s).mode = s.mode := rfl
@[simp] theorem deliver_lastDecrypt (s : State) : (deliver s).lastDecrypt = s.lastDecrypt := rfl
@[simp] theorem deliver_telegramValid (s : State) : (deliver s).telegramValid = true := rfl
@[simp] theorem deliver_inputs (s : State) : (deliver s).inputs = s.inputs := rfl

end deliver

section holdDecryption

@[simp] theorem holdDecryption_state (r : DecryptResult) (s : State) : (holdDecryption r s).state = s.state := rfl
@[simp] theorem holdDecryption_titleLen (r : DecryptResult) (s : State) : (holdDecryption r s).titleLen = s.titleLen := rfl
@[simp] theorem holdDecryption_declaredLength (r : DecryptResult) (s : State) : (holdDecryption r s).declaredLength = s.declaredLength := rfl
@[simp] theorem holdDecryption_pos (r : DecryptResult) (s : State) : (holdDecryption r s).pos = s.pos := rfl
@[simp] theorem holdDecryption_target (r : DecryptResult) (s : State) : (holdDecryption r s).target = s.target := rfl
@[simp] theorem holdDecryption_systemTitle (r : DecryptResult) (s : State) : (holdDecryption r s).systemTitle = s.systemTitle := rfl
@[simp] theorem holdDecryption_frameCounter (r : DecryptResult) (s : State) : (holdDecryption r s).frameCounter = s.frameCounter := rfl
@[simp] theorem holdDecryption_payload (r : DecryptResult) (s : State) : (holdDecryption r s).payload = s.payload := rfl
@[simp] theorem holdDecryption_authTag (r : DecryptResult) (s : State) : (holdDecryption r s).authTag = s.authTag := rfl
@[simp] theorem holdDecryption_ready (r : DecryptResult) (s : State) : (holdDecryption r s).ready = s.ready := rfl
@[simp] theorem holdDecryption_err (r : DecryptResult) (s : State) : (holdDecryption r s).err = s.err := rfl
@[simp] theorem holdDecryption_result (r : DecryptResult) (s : State) : (holdDecryption r s).result = s.result := rfl
@[simp] theorem holdDecryption_decryptors (r : DecryptResult) (s : State) : (holdDecryption r s).decryptors = s.decryptors := rfl
@[simp] theorem holdDecryption_mode (r : DecryptResult) (s : State) : (holdDecryption r s).mode = s.mode := rfl
@[simp] theorem holdDecryption_lastDecrypt (r : DecryptResult) (s : State) : (holdDecryption r s).lastDecrypt = r := rfl
@[simp] theorem holdDecryption_telegramValid (r : DecryptResult) (s : State) : (holdDecryption r s).telegramValid = s.telegramValid := rfl
@[simp] theorem holdDecryption_inputs (r : DecryptResult) (s : State) : (holdDecryption r s).inputs = s.inputs := rfl

end holdDecryption

section addDecryptor

@[simp] theorem addDecryptor_state (d : Decryptor) (s : State) : (addDecryptor d s).state = s.state := rfl
@[simp] theorem addDecryptor_titleLen (d : Decryptor) (s : State) : (addDecryptor d s).titleLen = s.titleLen := rfl
@[simp] theorem addDecryptor_declaredLength (d : Decryptor) (s : State) : (addDecryptor d s).declaredLength = s.declaredLength := rfl
@[simp] theorem addDecryptor_pos (d : Decryptor) (s : State) : (addDecryptor d s).pos = s.pos := rfl
@[simp] theorem addDecryptor_target (d : Decryptor) (s : State) : (addDecryptor d s).target = s.target := rfl
@[simp] theorem addDecryptor_systemTitle (d : Decryptor) (s : State) : (addDecryptor d s).systemTitle = s.systemTitle := rfl
@[simp] theorem addDecryptor_frameCounter (d : Decryptor) (s : State) : (addDecryptor d s).frameCounter = s.frameCounter := rfl
@[simp] theorem addDecryptor_payload (d : Decryptor) (s : State) : (addDecryptor d s).payload = s.payload := rfl
@[simp] theorem addDecryptor_authTag (d : Decryptor) (s : State) : (addDecryptor d s).authTag = s.authTag := rfl
@[simp] theorem addDecryptor_ready (d : Decryptor) (s : State) : (addDecryptor d s).ready = s.ready := rfl
@[simp] theorem addDecryptor_err (d : Decryptor) (s : State) : (addDecryptor d s).err = s.err := rfl
@[simp] theorem addDecryptor_result (d : Decryptor) (s : State) : (addDecryptor d s).result = s.result := rfl
@[simp] theorem addDecryptor_decryptors (d : Decryptor) (s : State) : (addDecryptor d s).decryptors = s.decryptors ++ [d] := rfl
@[simp] theorem addDecryptor_mode (d : Decryptor) (s : State) : (addDecryptor d s).mode = s.mode := rfl
@[simp] theorem addDecryptor_lastDecrypt (d : Decryptor) (s : State) : (addDecryptor d s).lastDecrypt = s.lastDecrypt := rfl
@[simp] theorem addDecryptor_telegramValid (d : Decryptor) (s : State) : (addDecryptor d s).telegramValid = s.telegramValid := rfl
@[simp] theorem addDecryptor_inputs (d : Decryptor) (s : State) : (addDecryptor d s).inputs = s.inputs := rfl

end addDecryptor

section setMode

@[simp] theorem setMode_state (m : Sink) (s : State) : (setMode m s).state = s.state := rfl
@[simp] theorem setMode_titleLen (m : Sink) (s : State) : (setMode m s).titleLen = s.titleLen := rfl
@[simp] theorem setMode_declaredLength (m : Sink) (s : State) : (setMode m s).declaredLength = s.declaredLength := rfl
@[simp] theorem setMode_pos (m : Sink) (s : State) : (setMode m s).pos = s.pos := rfl
@[simp] theorem setMode_target (m : Sink) (s : State) : (setMode m s).target = s.target := rfl
@[simp] theorem setMode_systemTitle (m : Sink) (s : State) : (setMode m s).systemTitle = s.systemTitle := rfl
@[simp] theorem setMode_frameCounter (m : Sink) (s : State) : (setMode m s).frameCounter = s.frameCounter := rfl
@[simp] theorem setMode_payload (m : Sink) (s : State) : (setMode m s).payload = s.payload := rfl
@[simp] theorem setMode_authTag (m : Sink) (s : State) : (setMode m s).authTag = s.authTag := rfl
@[simp] theorem setMode_ready (m : Sink) (s : State) : (setMode m s).ready = false := rfl
@[simp] theorem setMode_err (m : Sink) (s : State) : (setMode m s).err = .ok := rfl
@[simp] theorem setMode_result (m : Sink) (s : State) : (setMode m s).result = .none := rfl
@[simp] theorem setMode_decryptors (m : Sink) (s : State) : (setMode m s).decryptors = s.decryptors := rfl
@[simp] theorem setMode_mode (m : Sink) (s : State) : (setMode m s).mode = m := rfl
@[simp] theorem setMode_lastDecrypt (m : Sink) (s : State) : (setMode m s).lastDecrypt = s.lastDecrypt := rfl
@[simp] theorem setMode_telegramValid (m : Sink) (s : State) : (setMode m s).telegramValid = s.telegramValid := rfl
@[simp] theorem setMode_inputs (m : Sink) (s : State) : (setMode m s).inputs = s.inputs := rfl

end setMode

section withInputs

@[simp] theorem withInputs_state (l : List Input) (s : State) : (withInputs l s).state = s.state := rfl
@[simp] theorem withInputs_titleLen (l : List Input) (s : State) : (withInputs l s).titleLen = s.titleLen := rfl
@[simp] theorem withInputs_declaredLength (l : List Input) (s : State) : (withInputs l s).declaredLength = s.declaredLength := rfl
@[simp] theorem withInputs_pos (l : List Input) (s : State) : (withInputs l s).pos = s.pos := rfl
@[simp] theorem withInputs_target (l : List Input) (s : State) : (withInputs l s).target = s.target := rfl
@[simp] theorem withInputs_systemTitle (l : List Input) (s : State) : (withInputs l s).systemTitle = s.systemTitle := rfl
@[simp] theorem withInputs_frameCounter (l : List Input) (s : State) : (withInputs l s).frameCounter = s.frameCounter := rfl
@[simp] theorem withInputs_payload (l : List Input) (s : State) : (withInputs l s).payload = s.payload := rfl
@[simp] theorem withInputs_authTag (l : List Input) (s : State) : (withInputs l s).authTag = s.authTag := rfl
@[simp] theorem withInputs_ready (l : List Input) (s : State) : (withInputs l s).ready = s.ready := rfl
@[simp] theorem withInputs_err (l : List Input) (s : State) : (withInputs l s).err = s.err := rfl
@[simp] theorem withInputs_result (l : List Input) (s : State) : (withInputs l s).result = s.result := rfl
@[simp] theorem withInputs_decryptors (l : List Input) (s : State) : (withInputs l s).decryptors = s.decryptors := rfl
@[simp] theorem withInputs_mode (l : List Input) (s : State) : (withInputs l s).mode = s.mode := rfl
@[simp] theorem withInputs_lastDecrypt (l : List Input) (s : State) : (withInputs l s).lastDecrypt = s.lastDecrypt := rfl
@[simp] theorem withInputs_telegramValid (l : List Input) (s : State) : (withInputs l s).telegramValid = s.telegramValid := rfl
@[simp] theorem withInputs_inputs (l : List Input) (s : State) : (withInputs l s).inputs = l := rfl

end withInputs

section idle

@[simp] theorem idle_state (s : State) : (idle s).state = s.state := rfl
@[simp] theorem idle_titleLen (s : State) : (idle s).titleLen = s.titleLen := rfl
@[simp] theorem idle_declaredLength (s : State) : (idle s).declaredLength = s.declaredLength := rfl
@[simp] theorem idle_pos (s : State) : (idle s).pos = s.pos := rfl
@[simp] theorem idle_target (s : State) : (idle s).target = s.target := rfl
@[simp] theorem idle_systemTitle (s : State) : (idle s).systemTitle = s.systemTitle := rfl
@[simp] theorem idle_frameCounter (s : State) : (idle s).frameCounter = s.frameCounter := rfl
@[simp] theorem idle_payload (s : State) : (idle s).payload = s.payload := rfl
@[simp] theorem idle_authTag (s : State) : (idle s).authTag = s.authTag := rfl
@[simp] theorem idle_ready (s : State) : (idle s).ready = false := rfl
@[simp] theorem idle_err (s : State) : (idle s).err = .ok := rfl
@[simp] theorem idle_result (s : State) : (idle s).result = .none := rfl
@[simp] theorem idle_decryptors (s : State) : (idle s).decryptors = s.decryptors := rfl
@[simp] theorem idle_mode (s : State) : (idle s).mode = s.mode := rfl
@[simp] theorem idle_lastDecrypt (s : State) : (idle s).lastDecrypt = s.lastDecrypt := rfl
@[simp] theorem idle_telegramValid (s : State) : (idle s).telegramValid = s.telegramValid := rfl
@[simp] theorem idle_inputs (s : State) : (idle s).inputs = s.inputs := rfl

end idle

end Sys2Proof.Machine
end

