-- ==== Sys2Proof/Laws/Assembler.lean ====
section
/-! SUPPORT. What the shared operations of the assembler can do, and that `feed` runs the decoded event. -/

namespace Sys2Proof.Machine

open Sys2Proof

/-- What sizing the payload can do: one framing error, or one of two next states with a later target (R97). -/
theorem sizePayload_cases (s : State) :
    (s.declaredLength.toNat < 17 ∧ sizePayload s = raiseFramingError .lengthUnderflow s) ∨
    (s.declaredLength.toNat = 17 ∧ sizePayload s = enter .readGcmTag (advanceTarget 12 s)) ∨
    (17 < s.declaredLength.toNat ∧
      sizePayload s = enter .readPayload (advanceTarget (s.declaredLength.toNat - 17) s)) := by
  unfold sizePayload overhead
  split
  · exact .inl ⟨‹_›, rfl⟩
  · split
    · exact .inr (.inl ⟨‹_›, rfl⟩)
    · exact .inr (.inr ⟨by omega, rfl⟩)

/-! The counting events, each on the byte that reaches the target and on an earlier one (R74). -/

theorem rtAppendNext_last {s : State} (b : Byte) (h : s.pos + 1 = s.target) :
    rtAppendNext b s = enter .readSep82 (appendTitle b (countByte (giveNothing s))) := if_pos h

theorem rtAppendNext_more {s : State} (b : Byte) (h : s.pos + 1 ≠ s.target) :
    rtAppendNext b s = appendTitle b (countByte (giveNothing s)) := if_neg h

theorem rplShiftNext_last {s : State} (b : Byte) (h : s.pos + 1 = s.target) :
    rplShiftNext b s =
      enter .readSep30 (setDeclaredLength (shiftInByte s.declaredLength b) (countByte (giveNothing s))) := if_pos h

theorem rplShiftNext_more {s : State} (b : Byte) (h : s.pos + 1 ≠ s.target) :
    rplShiftNext b s = setDeclaredLength (shiftInByte s.declaredLength b) (countByte (giveNothing s)) := if_neg h

theorem rfcAppendNext_last {s : State} (b : Byte) (h : s.pos + 1 = s.target) :
    rfcAppendNext b s = sizePayload (appendCounter b (countByte (giveNothing s))) := if_pos h

theorem rfcAppendNext_more {s : State} (b : Byte) (h : s.pos + 1 ≠ s.target) :
    rfcAppendNext b s = appendCounter b (countByte (giveNothing s)) := if_neg h

theorem rpAppendNext_last {s : State} (b : Byte) (h : s.pos + 1 = s.target) :
    rpAppendNext b s = enter .readGcmTag (advanceTarget 12 (appendPayload b (countByte (giveNothing s)))) := if_pos h

theorem rpAppendNext_more {s : State} (b : Byte) (h : s.pos + 1 ≠ s.target) :
    rpAppendNext b s = appendPayload b (countByte (giveNothing s)) := if_neg h

theorem rgtAppendNext_last {s : State} (b : Byte) (h : s.pos + 1 = s.target) :
    rgtAppendNext b s = enter .done (appendTag b (countByte (giveNothing s))) := if_pos h

theorem rgtAppendNext_more {s : State} (b : Byte) (h : s.pos + 1 ≠ s.target) :
    rgtAppendNext b s = appendTag b (countByte (giveNothing s)) := if_neg h

/-- An event changes neither the configuration, the Decryptor's outputs nor the waiting inputs. -/
theorem eventNext_configuration (b : Byte) (s : State) :
    (eventNext b s).decryptors = s.decryptors ∧ (eventNext b s).mode = s.mode ∧
      (eventNext b s).lastDecrypt = s.lastDecrypt ∧ (eventNext b s).inputs = s.inputs := by
  unfold eventNext
  split <;> try split
  all_goals
    simp only [wsStartNext, wsSkipNext, rtlSetNext, rtAppendNext, s82OkNext, s82BadNext, rplShiftNext, s30OkNext,
      s30BadNext, rfcAppendNext, rpAppendNext, rgtAppendNext, doneNext, sizePayload]
    repeat' split
    all_goals simp

/-- `feed` changes neither the configuration, the Decryptor's outputs nor the waiting inputs (R38, R113). -/
theorem feed_configuration (b : Byte) (s : State) :
    (feed b s).decryptors = s.decryptors ∧ (feed b s).mode = s.mode ∧ (feed b s).lastDecrypt = s.lastDecrypt ∧
      (feed b s).inputs = s.inputs := by
  have h := eventNext_configuration b s
  unfold feed finishNext doneNext
  split
  · simpa using h
  · exact h

/-- The event that `feed` runs is the one the decoder reads from the selector (R72, R87). -/
theorem exec_decoded_event {s : State} {b : Byte} {i : Instr} (h : decode (selector s.state b) = .ok i) :
    exec i s = .next (eventNext b s) := by
  have key : ∀ (st : ParserState) (b : Byte), decode (selector st b) = .ok (match st with
      | .waitStart => if b = startMarker then .wsStart else .wsSkip b
      | .readTitleLength => .rtlSet b
      | .readTitle => .rtAppend b
      | .readSep82 => if b = sep82 then .s82Ok else .s82Bad b
      | .readPayloadLength => .rplShift b
      | .readSep30 => if b = sep30 then .s30Ok else .s30Bad b
      | .readFrameCounter => .rfcAppend b
      | .readPayload => .rpAppend b
      | .readGcmTag => .rgtAppend b
      | .done => .done) := by
    intro st
    cases st <;> decide +kernel
  rw [key] at h
  injection h with h
  subst h
  unfold eventNext
  cases s.state <;> dsimp only <;> (try split) <;> rfl

end Sys2Proof.Machine
end

