-- ==== Sys2Proof/Laws/Step.lean ====
section
/-! SUPPORT. What a fetch and a step can do, said once. -/

namespace Sys2Proof.Machine

@[simp] theorem completeInvocation_next (t : State) : completeInvocation (.next t) = .next (finishNext t) := rfl
@[simp] theorem completeInvocation_fault (r : Fault) : completeInvocation (.fault r) = .fault r := rfl
@[simp] theorem completeInvocation_refused (r : Refusal) : completeInvocation (.refused r) = .refused r := rfl

/-- The end of an invocation never leaves `Done` behind. -/
theorem finishNext_state_ne_done (s : State) : (finishNext s).state ≠ .done := by
  unfold finishNext doneNext
  split
  · simp
  · assumption

theorem finishNext_of_ne_done {s : State} (h : s.state ≠ .done) : finishNext s = s := by simp [finishNext, h]

/-- With an input waiting, and outside `Done`, the fetch takes that input. -/
theorem fetch_input {s : State} {input : Input} {rest : List Input} (hd : s.state ≠ .done)
    (hi : s.inputs = input :: rest) : fetch s = fetchInput s.state input rest := by
  unfold fetch
  split
  · exact absurd ‹_› hd
  · rename_i h _
    simp [hi] at h
  · rename_i h _
    simp only [hi, List.cons.injEq] at h
    rw [← h.1, ← h.2]

/-- With no input waiting, and outside `Done`, the fetch takes nothing. -/
theorem fetch_nothing {s : State} (hd : s.state ≠ .done) (hi : s.inputs = []) : fetch s = .nothing := by
  unfold fetch
  split
  · exact absurd ‹_› hd
  · rfl
  · rename_i h _
    simp [hi] at h

/-- In `Done` the fetch takes the `DONE` step and no input. -/
theorem fetch_done {s : State} (hd : s.state = .done) : fetch s = .instr .done s.inputs := by
  unfold fetch
  split
  · rfl
  · exact absurd hd ‹_›
  · exact absurd hd ‹_›

/-- If a step answers a next state, it waited, ran an instruction, or took the host's choice of `MODE`. -/
theorem step_inversion {s t : State} (h : step s = .next t) :
    (fetch s = .nothing ∧ t = idle s) ∨
    (∃ i rest u, fetch s = .instr i rest ∧ exec i (withInputs rest s) = .next u ∧ t = finishNext u) ∨
    (∃ m rest, fetch s = .mode m rest ∧ t = setMode m (withInputs rest s)) := by
  unfold step at h
  split at h
  · exact .inl ⟨‹_›, by simpa using h.symm⟩
  · rename_i i rest hf
    refine .inr (.inl ⟨i, rest, ?_⟩)
    cases he : exec i (withInputs rest s) with
    | next u => exact ⟨u, hf, rfl, by simpa [he] using h.symm⟩
    | fault r => simp [he] at h
    | refused r => simp [he] at h
  · rename_i m rest hf
    exact .inr (.inr ⟨m, rest, hf, by simpa using h.symm⟩)
  · cases h
  · cases h

end Sys2Proof.Machine
end

