-- ==== Sys2Proof/Laws/Feed.lean ====
section
/-! SUPPORT. What one invocation of `feed` does in each state, what a sink can answer, and what a construction can. -/

namespace Sys2Proof.Machine

open Sys2Proof

theorem feed_in_waitStart {s : State} (b : Byte) (h : s.state = .waitStart) :
    feed b s = if b = 0xDB then wsStartNext s else wsSkipNext s := by
  simp only [feed, eventNext, h]
  split <;> simp [finishNext, wsStartNext, wsSkipNext, h]

theorem feed_in_readTitleLength {s : State} (b : Byte) (h : s.state = .readTitleLength) :
    feed b s = rtlSetNext b s := by
  simp only [feed, eventNext, h, rtlSetNext]
  split <;> simp [finishNext]

theorem feed_in_readTitle {s : State} (b : Byte) (h : s.state = .readTitle) : feed b s = rtAppendNext b s := by
  simp only [feed, eventNext, h, rtAppendNext]
  split <;> simp [finishNext, h]

theorem feed_in_readSep82 {s : State} (b : Byte) (h : s.state = .readSep82) :
    feed b s = if b = 0x82 then s82OkNext s else s82BadNext s := by
  simp only [feed, eventNext, h]
  split <;> simp [finishNext, s82OkNext, s82BadNext, raiseFramingError]

theorem feed_in_readPayloadLength {s : State} (b : Byte) (h : s.state = .readPayloadLength) :
    feed b s = rplShiftNext b s := by
  simp only [feed, eventNext, h, rplShiftNext]
  split <;> simp [finishNext, h]

theorem feed_in_readSep30 {s : State} (b : Byte) (h : s.state = .readSep30) :
    feed b s = if b = 0x30 then s30OkNext s else s30BadNext s := by
  simp only [feed, eventNext, h]
  split <;> simp [finishNext, s30OkNext, s30BadNext, raiseFramingError]

theorem feed_in_readFrameCounter {s : State} (b : Byte) (h : s.state = .readFrameCounter) :
    feed b s = rfcAppendNext b s := by
  simp only [feed, eventNext, h]
  by_cases hp : s.pos + 1 = s.target
  · rw [rfcAppendNext_last b hp]
    rcases sizePayload_cases (appendCounter b (countByte (giveNothing s))) with ⟨_, e⟩ | ⟨_, e⟩ | ⟨_, e⟩ <;>
      rw [e] <;> simp [finishNext, raiseFramingError]
  · rw [rfcAppendNext_more b hp]
    simp [finishNext, h]

theorem feed_in_readPayload {s : State} (b : Byte) (h : s.state = .readPayload) : feed b s = rpAppendNext b s := by
  simp only [feed, eventNext, h, rpAppendNext]
  split <;> simp [finishNext, h]

theorem feed_in_readGcmTag {s : State} (b : Byte) (h : s.state = .readGcmTag) :
    feed b s = if s.pos + 1 = s.target then doneNext (appendTag b (countByte (giveNothing s)))
      else appendTag b (countByte (giveNothing s)) := by
  simp only [feed, eventNext, h, rgtAppendNext]
  split
  · simp [finishNext, doneNext, deliver, enter]
  · simp [finishNext, h]

theorem feed_in_done {s : State} (b : Byte) (h : s.state = .done) : feed b s = doneNext s := by
  simp only [feed, eventNext, h]
  simp [finishNext, doneNext]

/-- An invocation of `feed` returns no host result (log 3). -/
theorem feed_result (b : Byte) (s : State) : (feed b s).result = .none := by
  have h : (eventNext b s).result = .none := by
    unfold eventNext
    split <;> try split
    all_goals
      simp only [wsStartNext, wsSkipNext, rtlSetNext, rtAppendNext, s82OkNext, s82BadNext, rplShiftNext, s30OkNext,
        s30BadNext, rfcAppendNext, rpAppendNext, rgtAppendNext, doneNext, sizePayload, raiseFramingError, deliver]
      repeat' split
      all_goals simp [giveNothing]
  unfold feed finishNext doneNext deliver
  split
  · simp [enter, giveResults]
  · exact h

/-- What a sink can answer at a `ready` (R114). -/
theorem runSink_cases (handle : Nat) (s : State) :
    (s.mode = .forward ∧ runSink handle s = .next (giveResults s.ready s.err (forwarding s) s)) ∨
    (s.mode = .decrypt ∧ ∃ d, s.decryptors[handle]? = some d ∧
      runSink handle s = .next (holdDecryption (decryptWith d (nonceOf s) (cipherAndTagOf s))
        (giveResults s.ready s.err (.decrypted (decryptWith d (nonceOf s) (cipherAndTagOf s))) s))) ∨
    (s.mode = .decrypt ∧ s.decryptors[handle]? = none ∧ runSink handle s = .refused .noDecryptor) := by
  cases hm : s.mode with
  | forward => exact .inl ⟨rfl, by simp [runSink, hm]⟩
  | decrypt =>
    cases hd : s.decryptors[handle]? with
    | none => exact .inr (.inr ⟨rfl, rfl, by simp [runSink, hm, hd]⟩)
    | some d => exact .inr (.inl ⟨rfl, d, rfl, by simp [runSink, hm, hd]⟩)

/-- What `KEYLOAD` can answer: a Decryptor more, or a failure that changes nothing but the results (R119, R120). -/
theorem execKeyload_cases (hex : HexText) (aad : AadOperand) (s : State) :
    (∃ d, construct hex aad = .ok d ∧ execKeyload hex aad s =
      .next (addDecryptor d (giveResults false .ok (.constructed s.decryptors.length) s))) ∨
    (∃ c, construct hex aad = .error c ∧
      execKeyload hex aad s = .next (giveResults false .ok (.constructionFailed c) s)) := by
  cases h : construct hex aad with
  | ok d => exact .inl ⟨d, rfl, by simp [execKeyload, h]⟩
  | error c => exact .inr ⟨c, rfl, by simp [execKeyload, h]⟩

end Sys2Proof.Machine
end

