-- ==== Sys2Proof/Laws/Gcm.lean ====
section
/-! SUPPORT. Small facts about the byte strings of GCM. -/

namespace Sys2Proof.Machine

/-- The table of the S-box is its definition (R132, R133). -/
theorem sbox_eq_sboxByRule (a : Byte) : sbox a = sboxByRule a := by
  have h : ∀ a : Byte, sbox a = sboxByRule a := by decide +kernel
  exact h a

@[simp] theorem blockBytes_length (X : Block) : (blockBytes X).length = 16 := by simp [blockBytes]

@[simp] theorem xorBytes_length (a b : Bytes) : (xorBytes a b).length = min a.length b.length := by simp [xorBytes]

/-- The pre-counter block of a 12-byte `IV` (R147). -/
theorem preCounter_of_length {iv : Bytes} (h : iv.length = 12) : preCounter iv = blockOfBytes (iv ++ [0, 0, 0, 1]) :=
  if_pos h

/-- Adding the same key stream twice gives the bytes back, where the key stream is long enough. -/
theorem xorBytes_xorBytes {a k : Bytes} (h : a.length ≤ k.length) : xorBytes (xorBytes a k) k = a := by
  induction a generalizing k with
  | nil => simp [xorBytes]
  | cons x xs ih =>
    cases k with
    | nil => simp at h
    | cons y ys =>
      simp only [xorBytes, List.zipWith_cons_cons, List.cons.injEq] at ih ⊢
      exact ⟨by rw [BitVec.xor_assoc, BitVec.xor_self, BitVec.xor_zero], ih (by simpa using h)⟩

@[simp] theorem gctrFrom_nil (K : Block) (n : Nat) (cb : Block) : gctrFrom K n cb [] = [] := by
  induction n generalizing cb with
  | zero => rfl
  | succ n ih => simp [gctrFrom, ih, xorBytes]

@[simp] theorem bitLength64_length (X : Bytes) : (bitLength64 X).length = 8 := by simp [bitLength64]

/-- A padded byte string is a whole number of blocks (R148). -/
theorem pad16_length (X : Bytes) : (pad16 X).length % 16 = 0 := by simp [pad16]; omega

/-- What GHASH is given is a whole number of blocks (R144, R148). -/
theorem ghashInput_length (A C : Bytes) : (ghashInput A C).length % 16 = 0 := by
  have hA := pad16_length A
  have hC := pad16_length C
  simp only [ghashInput, List.length_append, bitLength64_length]
  omega

/-- What `DECRYPT` can answer: one of three failures with no plaintext, or a success (R123). -/
theorem decryptWith_cases (d : Decryptor) (nonce c : Bytes) :
    (c.length < 12 ∧ decryptWith d nonce c = ⟨[], false, .inputTooShort⟩) ∨
    (12 ≤ c.length ∧ nonce.length ≠ 12 ∧ decryptWith d nonce c = ⟨[], false, .nonceLength⟩) ∨
    (12 ≤ c.length ∧ nonce.length = 12 ∧ gcmTag d.key nonce d.aad (cipherPart c) ≠ tagPart c ∧
      decryptWith d nonce c = ⟨[], false, .authenticationError⟩) ∨
    (12 ≤ c.length ∧ nonce.length = 12 ∧ gcmTag d.key nonce d.aad (cipherPart c) = tagPart c ∧
      decryptWith d nonce c = ⟨gctr d.key (inc32 (preCounter nonce)) (cipherPart c), true, .ok⟩) := by
  unfold decryptWith gcmAd DecryptResult.failure DecryptResult.success tagBytes nonceBytes
  by_cases h1 : c.length < 12
  · exact .inl ⟨h1, by simp [h1]⟩
  · by_cases h2 : nonce.length = 12
    · by_cases h3 : gcmTag d.key nonce d.aad (cipherPart c) = tagPart c
      · exact .inr (.inr (.inr ⟨by omega, h2, h3, by simp [h1, h2, h3]⟩))
      · exact .inr (.inr (.inl ⟨by omega, h2, h3, by simp [h1, h2, h3]⟩))
    · exact .inr (.inl ⟨by omega, h2, by simp [h1, h2]⟩)

end Sys2Proof.Machine
end

