-- ==== Sys2Proof/Laws/PerInstr.lean ====
section
/-! SUPPORT. The family EncodedFields: what an encoding holds, one lemma per instruction. -/

namespace Sys2Proof.Laws

open Sys2Proof

/-- The code of the state that selects a byte event and the byte it is selected with (R72); none for a host operation
(R83). -/
def eventFields : Instr → Option (BitVec 4 × Byte)
  | .wsStart => some (0, 0xDB)
  | .wsSkip b => some (0, b)
  | .rtlSet b => some (1, b)
  | .rtAppend b => some (2, b)
  | .s82Ok => some (3, 0x82)
  | .s82Bad b => some (3, b)
  | .rplShift b => some (4, b)
  | .s30Ok => some (5, 0x30)
  | .s30Bad b => some (5, b)
  | .rfcAppend b => some (6, b)
  | .rpAppend b => some (7, b)
  | .rgtAppend b => some (8, b)
  | .done => some (9, 0)
  | .reset => none
  | .keyload _ _ => none
  | .extract => none
  | .forward => none
  | .decrypt _ _ _ => none
  | .pipelineStep _ _ => none

/-- An instruction's encoding holds its state's code in bits 11 to 8 and its byte in bits 7 to 0 (R71, R72). -/
def EncodedFields.Statement (i : Instr) : Prop :=
  (encode i).map (fun sel => (selectorCode sel, selectorByte sel)) = eventFields i

theorem EncodedFields.wsStart : EncodedFields.Statement .wsStart := by simp [Statement, encode, eventFields, ParserState.code]
theorem EncodedFields.wsSkip (b : Byte) : EncodedFields.Statement (.wsSkip b) := by simp [Statement, encode, eventFields, ParserState.code]
theorem EncodedFields.rtlSet (b : Byte) : EncodedFields.Statement (.rtlSet b) := by simp [Statement, encode, eventFields, ParserState.code]
theorem EncodedFields.rtAppend (b : Byte) : EncodedFields.Statement (.rtAppend b) := by simp [Statement, encode, eventFields, ParserState.code]
theorem EncodedFields.s82Ok : EncodedFields.Statement .s82Ok := by simp [Statement, encode, eventFields, ParserState.code]
theorem EncodedFields.s82Bad (b : Byte) : EncodedFields.Statement (.s82Bad b) := by simp [Statement, encode, eventFields, ParserState.code]
theorem EncodedFields.rplShift (b : Byte) : EncodedFields.Statement (.rplShift b) := by simp [Statement, encode, eventFields, ParserState.code]
theorem EncodedFields.s30Ok : EncodedFields.Statement .s30Ok := by simp [Statement, encode, eventFields, ParserState.code]
theorem EncodedFields.s30Bad (b : Byte) : EncodedFields.Statement (.s30Bad b) := by simp [Statement, encode, eventFields, ParserState.code]
theorem EncodedFields.rfcAppend (b : Byte) : EncodedFields.Statement (.rfcAppend b) := by simp [Statement, encode, eventFields, ParserState.code]
theorem EncodedFields.rpAppend (b : Byte) : EncodedFields.Statement (.rpAppend b) := by simp [Statement, encode, eventFields, ParserState.code]
theorem EncodedFields.rgtAppend (b : Byte) : EncodedFields.Statement (.rgtAppend b) := by simp [Statement, encode, eventFields, ParserState.code]
theorem EncodedFields.done : EncodedFields.Statement .done := by simp [Statement, encode, eventFields, ParserState.code]
theorem EncodedFields.reset : EncodedFields.Statement .reset := rfl
theorem EncodedFields.keyload (hex : HexText) (aad : AadOperand) : EncodedFields.Statement (.keyload hex aad) := rfl
theorem EncodedFields.extract : EncodedFields.Statement .extract := rfl
theorem EncodedFields.forward : EncodedFields.Statement .forward := rfl
theorem EncodedFields.decrypt (handle : Nat) (nonce cipherAndTag : Bytes) :
    EncodedFields.Statement (.decrypt handle nonce cipherAndTag) := rfl
theorem EncodedFields.pipelineStep (b : Byte) (handle : Nat) : EncodedFields.Statement (.pipelineStep b handle) := rfl

end Sys2Proof.Laws
end

