-- ==== Sys2Proof/Laws/Ports.lean ====
section
/-! SUPPORT. What a clock edge and a pulse on `dec_start` can do, and which state raises `dec_done`. -/

namespace Sys2Proof.Machine

open Sys2Proof

/-- No two causes share a code (R164). -/
theorem causeCode_injective {a b : Cause} (h : a.code = b.code) : a = b := by
  revert h
  cases a <;> cases b <;> decide

/-- `dec_done` is up exactly when the last step returned a result of `DECRYPT`. -/
theorem decDonePort_iff (s : State) : decDonePort s = true ↔ ∃ r, s.result = .decrypted r := by
  unfold decDonePort
  split <;> simp_all

/-- A clock edge always answers a next state, of one of three kinds (R10, R43). -/
theorem clockEdge_cases (p : PortIn) (s : State) :
    (p.rst = true ∧ clockEdge p s = .next (enter .waitStart (clearTelegram (giveNothing s)))) ∨
    (p.rst = false ∧ p.inValid = true ∧ clockEdge p s = .next (feed p.inByte s)) ∨
    (p.rst = false ∧ p.inValid = false ∧ clockEdge p s = .next (idle s)) := by
  cases hr : p.rst <;> cases hv : p.inValid <;> simp [clockEdge, hr, hv, execReset]

/-- What `DECRYPT` can do: its result is returned and held, or there is no such Decryptor (R115, R123, R128). -/
theorem execDecrypt_cases (h : Nat) (n c : Bytes) (s : State) :
    (∃ d, s.decryptors[h]? = some d ∧ execDecrypt h n c s =
      .next (holdDecryption (decryptWith d n c) (giveResults false .ok (.decrypted (decryptWith d n c)) s))) ∨
    (s.decryptors[h]? = none ∧ execDecrypt h n c s = .refused .noDecryptor) := by
  cases hd : s.decryptors[h]? with
  | none => exact .inr ⟨rfl, by simp [execDecrypt, hd]⟩
  | some d => exact .inl ⟨d, rfl, by simp [execDecrypt, hd]⟩

end Sys2Proof.Machine
end

