-- ==== Sys2Proof/Tests/Slice0.lean ====
section
/-! SUPPORT. Tests. The numbers V<n> and P<n> are those of spec/95_test_vectors.md. A theorem `test_…` fixes one result
the spec gives; a theorem `witness_…` shows a state and operands that meet all hypotheses of one obligation, or of one
clause of it. -/

namespace Sys2Proof.Tests

open Sys2Proof Sys2Proof.Machine

/-! ### Helpers -/

/-- A state in the middle of a frame, its buffers holding `t`, `f`, `p` and `g` zero bytes. -/
def mid (st : ParserState) (N L pos target t f p g : Nat) : State :=
  { State.reset with
    state := st, titleLen := BitVec.ofNat 8 N, declaredLength := BitVec.ofNat 16 L
    pos := BitVec.ofNat 17 pos, target := BitVec.ofNat 17 target
    systemTitle := List.replicate t 0, frameCounter := List.replicate f 0
    payload := List.replicate p 0, authTag := List.replicate g 0 }

/-- A delivered Telegram. -/
def delivered (N L t p : Nat) : State :=
  { mid .waitStart N L (N + L + 2) (N + L + 2) t 4 p 12 with ready := true, telegramValid := true }

/-- What 95_test_vectors.md writes of a state, and the results of the step. -/
def shape (s : State) : ParserState × List Nat × Bool × Cause :=
  (s.state, [s.titleLen.toNat, s.declaredLength.toNat, s.pos.toNat, s.target.toNat, s.systemTitle.length,
    s.frameCounter.length, s.payload.length, s.authTag.length], s.ready, s.err)

def nextOf : Host.Outcome State Fault Refusal → Option State
  | .next t => some t
  | .fault _ => none
  | .refused _ => none

def refusalOf : Host.Outcome State Fault Refusal → Option Refusal
  | .next _ => none
  | .fault _ => none
  | .refused r => some r

theorem next_of_nextOf {o : Host.Outcome State Fault Refusal} {t : State} (h : nextOf o = some t) : o = .next t := by
  cases o <;> simp_all [nextOf]

def giving (s : State) (x : Input) : State := { s with inputs := [x] }

/-- One step on one byte. -/
def fed (s : State) (b : Byte) : Option (ParserState × List Nat × Bool × Cause) :=
  (nextOf (step (giving s (.byte b)))).map shape

/-- The result of one step on a host call. -/
def called (s : State) (x : Input) : Option HostResult := (nextOf (step (giving s x))).map (·.result)

/-! ### Well-formedness: each check refuses an ill-formed term -/

theorem test_wf_wsSkip : Instr.wf (.wsSkip 0xDB) = false ∧ Instr.wf (.wsSkip 0xDA) = true := by decide
theorem test_wf_s82Bad : Instr.wf (.s82Bad 0x82) = false ∧ Instr.wf (.s82Bad 0xDB) = true := by decide
theorem test_wf_s30Bad : Instr.wf (.s30Bad 0x30) = false ∧ Instr.wf (.s30Bad 0x82) = true := by decide
theorem test_frameWf_title : frameWf (List.replicate 256 0) [0, 0, 0, 0] [] (List.replicate 12 0) = false := by
  simp only [frameWf, List.length_replicate, -List.reduceReplicate]; decide
theorem test_frameWf_counter : frameWf [] [0, 0, 0] [] (List.replicate 12 0) = false := by decide
theorem test_frameWf_payload :
    frameWf [] [0, 0, 0, 0] (List.replicate 65519 0) (List.replicate 12 0) = false := by
  simp only [frameWf, List.length_replicate, -List.reduceReplicate]; decide
theorem test_frameWf_tag : frameWf [] [0, 0, 0, 0] [] (List.replicate 11 0) = false := by decide
theorem test_frameWf_largest :
    frameWf (List.replicate 255 0) [0, 0, 0, 0] (List.replicate 65518 0) (List.replicate 12 0) = true := by
  simp only [frameWf, List.length_replicate, -List.reduceReplicate]; decide

/-! ### Decoding: a word of every row, written out from the table of R72 -/

theorem test_decode_wsStart : decode 0b0000_11011011 = .ok .wsStart := by decide
theorem test_decode_wsSkip : decode 0b0000_10000010 = .ok (.wsSkip 0x82) := by decide
theorem test_decode_rtlSet : decode 0b0001_11011011 = .ok (.rtlSet 0xDB) := by decide
theorem test_decode_rtAppend : decode 0b0010_00000001 = .ok (.rtAppend 0x01) := by decide
theorem test_decode_s82Ok : decode 0b0011_10000010 = .ok .s82Ok := by decide
theorem test_decode_s82Bad : decode 0b0011_11011011 = .ok (.s82Bad 0xDB) := by decide
theorem test_decode_rplShift : decode 0b0100_00011100 = .ok (.rplShift 0x1C) := by decide
theorem test_decode_s30Ok : decode 0b0101_00110000 = .ok .s30Ok := by decide
theorem test_decode_s30Bad : decode 0b0101_10000010 = .ok (.s30Bad 0x82) := by decide
theorem test_decode_rfcAppend : decode 0b0110_00110000 = .ok (.rfcAppend 0x30) := by decide
theorem test_decode_rpAppend : decode 0b0111_11000001 = .ok (.rpAppend 0xC1) := by decide
theorem test_decode_rgtAppend : decode 0b1000_11011010 = .ok (.rgtAppend 0xDA) := by decide
theorem test_decode_done : decode 0b1001_00000000 = .ok .done := by decide
theorem test_decode_reserved :
    decode 0b1010_00000000 = .error (.reservedState 10) ∧ decode 0b1111_11111111 = .error (.reservedState 15) := by
  decide

/-- The same words through the table word, and the host operations' rows, which have no bits (R83). -/
theorem test_decodeTableWord :
    decodeTableWord 16 0x0DB = some .wsStart ∧ decodeTableWord 16 0x382 = some .s82Ok ∧
      decodeTableWord 16 0x8DA = some (.rgtAppend 0xDA) ∧ decodeTableWord 16 0x900 = some .done ∧
      decodeTableWord 16 0xA00 = none ∧ decodeTableWord 16 0x1000 = none ∧ decodeTableWord 0 0 = none := by decide

/-- A placed word is the first instruction that runs. -/
theorem test_withFetchWord :
    fetch (State.reset.withFetchWord 16 0x0DB) = .instr .wsStart [] ∧
      fetch (State.reset.withFetchWord 16 0x531) = .instr (.s30Bad 0x31) [] ∧
      fetch (State.reset.withFetchWord 16 0x900) = .instr .done [] := by decide

/-! ### The byte events (V1 to V34) -/

theorem test_V1_wsSkip :
    fed State.reset 0x00 = some (.waitStart, [0, 0, 0, 0, 0, 0, 0, 0], false, .ok) := by decide
theorem test_V2_wsSkip :
    fed (delivered 8 28 8 11) 0x82 = some (.waitStart, [8, 28, 38, 38, 8, 4, 11, 12], false, .ok) := by decide
theorem test_V3_wsStart :
    fed (delivered 8 28 8 11) 0xDB = some (.readTitleLength, [0, 0, 0, 0, 0, 0, 0, 0], false, .ok) := by decide
theorem test_V6_rtlSet :
    fed (mid .readTitleLength 0 0 0 0 0 0 0 0) 0x00 =
      some (.readSep82, [0, 0, 1, 1, 0, 0, 0, 0], false, .ok) := by decide
theorem test_V7_rtlSet :
    fed (mid .readTitleLength 0 0 0 0 0 0 0 0) 0xFF =
      some (.readTitle, [255, 0, 1, 256, 0, 0, 0, 0], false, .ok) := by decide
theorem test_V9_rtAppend :
    fed (mid .readTitle 8 0 1 9 0 0 0 0) 0x01 = some (.readTitle, [8, 0, 2, 9, 1, 0, 0, 0], false, .ok) := by
  decide
theorem test_V10_rtAppend :
    fed (mid .readTitle 8 0 8 9 7 0 0 0) 0x08 = some (.readSep82, [8, 0, 9, 9, 8, 0, 0, 0], false, .ok) := by
  decide
theorem test_V12_s82Ok :
    fed (mid .readSep82 8 0 9 9 8 0 0 0) 0x82 = some (.readPayloadLength, [8, 0, 9, 11, 8, 0, 0, 0], false, .ok) := by
  decide
theorem test_V14_s82Bad :
    fed (mid .readSep82 8 0 9 9 8 0 0 0) 0xDB = some (.waitStart, [8, 0, 9, 9, 8, 0, 0, 0], false, .badSep82) := by
  decide
theorem test_V16_rplShift :
    fed (mid .readPayloadLength 8 0 9 11 8 0 0 0) 0x12 =
      some (.readPayloadLength, [8, 0x0012, 10, 11, 8, 0, 0, 0], false, .ok) := by decide
theorem test_V17_rplShift :
    fed (mid .readPayloadLength 8 18 10 11 8 0 0 0) 0x34 =
      some (.readSep30, [8, 0x1234, 11, 11, 8, 0, 0, 0], false, .ok) := by decide
theorem test_V19_s30Ok :
    fed (mid .readSep30 8 4660 11 11 8 0 0 0) 0x30 =
      some (.readFrameCounter, [8, 4660, 11, 15, 8, 0, 0, 0], false, .ok) := by decide
theorem test_V21_s30Bad :
    fed (mid .readSep30 8 4660 11 11 8 0 0 0) 0x82 =
      some (.waitStart, [8, 4660, 11, 11, 8, 0, 0, 0], false, .badSep30) := by decide
theorem test_V24_rfcAppend :
    fed (mid .readFrameCounter 8 17 14 15 8 3 0 0) 0x01 =
      some (.readGcmTag, [8, 17, 15, 27, 8, 4, 0, 0], false, .ok) := by decide
theorem test_V25_rfcAppend :
    fed (mid .readFrameCounter 8 16 14 15 8 3 0 0) 0x01 =
      some (.waitStart, [8, 16, 15, 15, 8, 4, 0, 0], false, .lengthUnderflow) := by decide
theorem test_V27_rpAppend :
    fed (mid .readPayload 8 18 15 16 8 4 0 0) 0xAA = some (.readGcmTag, [8, 18, 16, 28, 8, 4, 1, 0], false, .ok) := by
  decide
theorem test_V28_rpAppend :
    fed (mid .readPayload 8 28 15 26 8 4 0 0) 0xC1 = some (.readPayload, [8, 28, 16, 26, 8, 4, 1, 0], false, .ok) := by
  decide
theorem test_V31_rgtAppend_done :
    fed (mid .readGcmTag 8 28 37 38 8 4 11 11) 0xDA =
      some (.waitStart, [8, 28, 38, 38, 8, 4, 11, 12], true, .ok) := by decide
theorem test_V32_rgtAppend :
    fed (mid .readGcmTag 0 17 17 19 0 4 0 10) 0xDB = some (.readGcmTag, [0, 17, 18, 19, 0, 4, 0, 11], false, .ok) := by
  decide

/-! ### The host operations -/

/-- R187's example. -/
theorem test_reset :
    (nextOf (exec .reset (mid .readPayload 8 217 115 215 8 4 100 0))).map shape =
      some (.waitStart, [0, 0, 0, 0, 0, 0, 0, 0], false, .ok) := by decide

/-- The key of 95_test_vectors.md, and its text. -/
def key : Block := 0x000102030405060708090A0B0C0D0E0F
def keyText : HexText :=
  ['0', '0', '0', '1', '0', '2', '0', '3', '0', '4', '0', '5', '0', '6', '0', '7',
    '0', '8', '0', '9', '0', 'A', '0', 'B', '0', 'C', '0', 'D', '0', 'E', '0', 'F']

/-- The same text with a character outside the hex alphabet in its last place. -/
def badKeyText : HexText := keyText.dropLast ++ ['G']
def keyed (mode : Sink) (s : State) : State := { s with decryptors := [⟨key, []⟩], mode := mode }

theorem test_V50_keyload :
    (nextOf (exec (.keyload keyText (.bytes [])) State.reset)).map (·.decryptors) = some [⟨key, []⟩] := by decide

/-- A character outside the hex alphabet (R119, R120). -/
theorem test_keyload_badCharacter :
    called State.reset (.keyload badKeyText (.bytes [])) =
      some (.constructionFailed .keyConfigurationError) := by decide

/-- R108's example. -/
def exampleTelegram : State :=
  { delivered 8 28 8 11 with
    systemTitle := [1, 2, 3, 4, 5, 6, 7, 8], frameCounter := [0, 0, 0, 1]
    payload := [0xC1, 0x0A, 0xEB, 0xA3, 0xD5, 0x7F, 0xA0, 0xFE, 0xD5, 0x23, 0x83]
    authTag := [0x81, 0x2E, 0x03, 0xED, 0x7C, 0xE2, 0x9B, 0xFC, 0xD7, 0xE4, 0xC2, 0xDA] }

/-- V40's Telegram without its last byte. -/
def exampleBeforeLast : State :=
  { mid .readGcmTag 8 28 37 38 0 0 0 0 with
    systemTitle := exampleTelegram.systemTitle, frameCounter := exampleTelegram.frameCounter
    payload := exampleTelegram.payload, authTag := exampleTelegram.authTag.dropLast }

def helloMeter : Bytes := [0x48, 0x45, 0x4C, 0x4C, 0x4F, 0x2D, 0x4D, 0x45, 0x54, 0x45, 0x52]

theorem test_extract :
    called exampleTelegram .extract =
      some (.extracted [1, 2, 3, 4, 5, 6, 7, 8, 0, 0, 0, 1] (exampleTelegram.payload ++ exampleTelegram.authTag)) := by
  decide
theorem test_extract_outsideTheWindow :
    refusalOf (exec .extract (mid .readPayload 8 28 16 26 8 4 1 0)) = some .noTelegram := by decide
theorem test_forward :
    called exampleTelegram .forward =
      some (.forwarded [1, 2, 3, 4, 5, 6, 7, 8, 0, 0, 0, 1] exampleTelegram.payload exampleTelegram.authTag) := by
  decide
theorem test_forward_outsideTheWindow : refusalOf (exec .forward State.reset) = some .noTelegram := by decide

theorem test_V70_decrypt :
    called (keyed .decrypt State.reset)
        (.decrypt 0 (nonceOf exampleTelegram) (cipherAndTagOf exampleTelegram)) =
      some (.decrypted ⟨helloMeter, true, .ok⟩) := by decide +kernel

/-- The last tag byte changed. -/
theorem test_V72_decrypt :
    called (keyed .decrypt State.reset)
        (.decrypt 0 (nonceOf exampleTelegram) (exampleTelegram.payload ++ (exampleTelegram.authTag.set 11 0xDB))) =
      some (.decrypted ⟨[], false, .authenticationError⟩) := by decide +kernel

/-- The last byte of P1: the plaintext. -/
theorem test_P1_pipelineStep :
    called (keyed .decrypt exampleBeforeLast) (.pipelineStep 0xDA 0) = some (.decrypted ⟨helloMeter, true, .ok⟩) := by
  decide +kernel
theorem test_pipelineStep_forward :
    called (keyed .forward exampleBeforeLast) (.pipelineStep 0xDA 0) =
      some (.forwarded (nonceOf exampleTelegram) exampleTelegram.payload exampleTelegram.authTag) := by decide

/-! ### The AES-GCM reference: the known answers of R142 and R152 -/

theorem test_R142_aes :
    aes128Enc 0x2b7e151628aed2a6abf7158809cf4f3c 0x3243f6a8885a308d313198a2e0370734 =
      0x3925841d02dc09fbdc118597196a0b32 := by decide +kernel
theorem test_R142_keySchedule :
    blockWord ((keySchedule 0x2b7e151628aed2a6abf7158809cf4f3c).getD 10 0) 3 = 0xb6630ca6 := by decide +kernel
theorem test_R152_emptyText :
    gcmTag 0 (List.replicate 12 0) [] [] =
      [0x58, 0xe2, 0xfc, 0xce, 0xfa, 0x7e, 0x30, 0x61, 0x36, 0x7f, 0x1d, 0x57] := by decide +kernel
theorem test_R152_oneBlock :
    (gcmAe 0 (List.replicate 12 0) [] (List.replicate 16 0)).2 =
      [0xab, 0x6e, 0x47, 0xd4, 0x2c, 0xec, 0x13, 0xbd, 0xf5, 0x3a, 0x67, 0xb2] := by decide +kernel

/-! ### Witnesses: states of the invariant, one for each state of the parser, at the last byte of its field -/

/-- The states of a frame with `N = 1` and `L = 18`, just before the byte that ends each field. -/
def atTitleLength : State := mid .readTitleLength 0 0 0 0 0 0 0 0
def atTitle : State := mid .readTitle 1 0 1 2 0 0 0 0
def atSep82 : State := mid .readSep82 1 0 2 2 1 0 0 0
def atLengthFirst : State := mid .readPayloadLength 1 0 2 4 1 0 0 0
def atLengthLast : State := mid .readPayloadLength 1 0 3 4 1 0 0 0
def atSep30 : State := mid .readSep30 1 18 4 4 1 0 0 0
def atCounter (L : Nat) : State := mid .readFrameCounter 1 L 7 8 1 3 0 0
def atPayload : State := mid .readPayload 1 18 8 9 1 4 0 0
def atTag : State := mid .readGcmTag 1 18 20 21 1 4 1 11
def atReady : State := delivered 1 18 1 1

theorem inv_intro {s : State} (h1 : layoutHolds s)
    (h2 : s.systemTitle.length ≤ titleCapacity ∧ s.frameCounter.length ≤ fcBytes ∧
      s.payload.length ≤ payloadCapacity ∧ s.authTag.length ≤ tagBytes)
    (h3 : s.pos.toNat ≤ 65792 ∧ s.target.toNat ≤ 65792)
    (h4 : s.telegramValid = true → s.state = .waitStart ∧ telegramComplete s)
    (h5 : s.ready = true → s.telegramValid = true ∧ s.err = .ok)
    (h6 : s.err.isFeedResult = true ∧ (s.err ≠ .ok → s.state = .waitStart ∧ s.telegramValid = false))
    (h7 : (s.lastDecrypt.ok = false → s.lastDecrypt.plaintext = []) ∧
      (s.lastDecrypt.ok = true → s.lastDecrypt.status = .ok)) : Inv s := ⟨h1, h2, h3, h4, h5, h6, h7⟩

theorem inv_reset : Inv State.reset := inv_intro ⟨by decide, by decide, by decide, by decide, by decide, by decide,
  by decide, by decide, by decide⟩ (by decide) (by decide) (by decide) (by decide) (by decide) (by decide)
theorem inv_atTitleLength : Inv atTitleLength := inv_intro ⟨by decide, by decide, by decide, by decide, by decide, by decide,
  by decide, by decide, by decide⟩ (by decide) (by decide) (by decide) (by decide) (by decide) (by decide)
theorem inv_atTitle : Inv atTitle := inv_intro ⟨by decide, by decide, by decide, by decide, by decide, by decide,
  by decide, by decide, by decide⟩ (by decide) (by decide) (by decide) (by decide) (by decide) (by decide)
theorem inv_atSep82 : Inv atSep82 := inv_intro ⟨by decide, by decide, by decide, by decide, by decide, by decide,
  by decide, by decide, by decide⟩ (by decide) (by decide) (by decide) (by decide) (by decide) (by decide)
theorem inv_atLengthFirst : Inv atLengthFirst := inv_intro ⟨by decide, by decide, by decide, by decide, by decide, by decide,
  by decide, by decide, by decide⟩ (by decide) (by decide) (by decide) (by decide) (by decide) (by decide)
theorem inv_atLengthLast : Inv atLengthLast := inv_intro ⟨by decide, by decide, by decide, by decide, by decide, by decide,
  by decide, by decide, by decide⟩ (by decide) (by decide) (by decide) (by decide) (by decide) (by decide)
theorem inv_atSep30 : Inv atSep30 := inv_intro ⟨by decide, by decide, by decide, by decide, by decide, by decide,
  by decide, by decide, by decide⟩ (by decide) (by decide) (by decide) (by decide) (by decide) (by decide)
theorem inv_atCounter_16 : Inv (atCounter 16) := inv_intro ⟨by decide, by decide, by decide, by decide, by decide, by decide,
  by decide, by decide, by decide⟩ (by decide) (by decide) (by decide) (by decide) (by decide) (by decide)
theorem inv_atCounter_17 : Inv (atCounter 17) := inv_intro ⟨by decide, by decide, by decide, by decide, by decide, by decide,
  by decide, by decide, by decide⟩ (by decide) (by decide) (by decide) (by decide) (by decide) (by decide)
theorem inv_atCounter_18 : Inv (atCounter 18) := inv_intro ⟨by decide, by decide, by decide, by decide, by decide, by decide,
  by decide, by decide, by decide⟩ (by decide) (by decide) (by decide) (by decide) (by decide) (by decide)
theorem inv_atPayload : Inv atPayload := inv_intro ⟨by decide, by decide, by decide, by decide, by decide, by decide,
  by decide, by decide, by decide⟩ (by decide) (by decide) (by decide) (by decide) (by decide) (by decide)
theorem inv_atTag : Inv atTag := inv_intro ⟨by decide, by decide, by decide, by decide, by decide, by decide,
  by decide, by decide, by decide⟩ (by decide) (by decide) (by decide) (by decide) (by decide) (by decide)
theorem inv_atReady : Inv atReady := inv_intro ⟨by decide, by decide, by decide, by decide, by decide, by decide,
  by decide, by decide, by decide⟩ (by decide) (by decide) (by decide) (by decide) (by decide) (by decide)
theorem inv_exampleTelegram : Inv exampleTelegram := inv_intro ⟨by decide, by decide, by decide, by decide, by decide, by decide,
  by decide, by decide, by decide⟩ (by decide) (by decide) (by decide) (by decide) (by decide) (by decide)

/-! ### Witnesses of the byte events and of decoding -/

theorem witness_SkippedByteChangesNothing : (0xDA : Byte) ≠ 0xDB ∧ (0xDC : Byte) ≠ 0xDB := by decide
theorem witness_WrongFirstSeparatorAborts : (0x81 : Byte) ≠ 0x82 ∧ (0x83 : Byte) ≠ 0x82 := by decide
theorem witness_WrongSecondSeparatorAborts : (0x2F : Byte) ≠ 0x30 ∧ (0x31 : Byte) ≠ 0x30 := by decide

theorem witness_StartMarkerClearsTelegram : Instr.isEvent (.wsSkip 0) = true ∧ Instr.wsSkip 0 ≠ .wsStart := by decide

/-- The clauses of `TitleLengthSetsTarget`: an empty title and the shortest one (V6). -/
theorem witness_TitleLengthSetsTarget :
    (rtlSetNext 0 atTitleLength).state = .readSep82 ∧ (rtlSetNext 1 atTitleLength).state = .readTitle := by decide

/-- The clauses of `CounterByteIsAppendedAndSizesPayload`: an early byte, and the last with `L` 16, 17 and 18. -/
theorem witness_CounterByteIsAppendedAndSizesPayload :
    (mid .readFrameCounter 1 18 6 8 1 2 0 0).pos + 1 ≠ (mid .readFrameCounter 1 18 6 8 1 2 0 0).target ∧
      (atCounter 18).pos + 1 = (atCounter 18).target ∧
      (rfcAppendNext 0 (atCounter 16)).state = .waitStart ∧ (rfcAppendNext 0 (atCounter 17)).state = .readGcmTag ∧
      (rfcAppendNext 0 (atCounter 18)).state = .readPayload := by decide

/-- The byte that reaches the target and one before it, for the other counting events. -/
theorem witness_countingEvents :
    (atTitle.pos + 1 = atTitle.target ∧ atLengthLast.pos + 1 = atLengthLast.target ∧
      atPayload.pos + 1 = atPayload.target) ∧
      (mid .readTitle 2 0 1 3 0 0 0 0).pos + 1 ≠ (mid .readTitle 2 0 1 3 0 0 0 0).target ∧
      atLengthFirst.pos + 1 ≠ atLengthFirst.target ∧
      (mid .readPayload 1 19 8 10 1 4 0 0).pos + 1 ≠ (mid .readPayload 1 19 8 10 1 4 0 0).target := by decide

theorem witness_TagByteIsAppended : atTag.state = .readGcmTag ∧ atTag.pos + 1 = atTag.target ∧
    (mid .readGcmTag 1 18 19 21 1 4 1 10).state = .readGcmTag ∧
    (mid .readGcmTag 1 18 19 21 1 4 1 10).pos + 1 ≠ (mid .readGcmTag 1 18 19 21 1 4 1 10).target := by decide

theorem witness_EventsKeepOwnFields : Instr.isEvent .wsStart = true ∧ Instr.isEvent .done = true ∧
    Instr.isEvent (.rgtAppend 0xDB) = true := by decide

/-- Every clause of `PositionCountsFieldBytes` but that of `Done`, which no state of the invariant meets. -/
theorem witness_PositionCountsFieldBytes :
    (Inv State.reset ∧ State.reset.state = .waitStart) ∧ (Inv atSep82 ∧ atSep82.state = .readSep82) ∧
      (Inv atSep30 ∧ atSep30.state = .readSep30) ∧ (Inv atTag ∧ atTag.state = .readGcmTag) :=
  ⟨⟨inv_reset, rfl⟩, ⟨inv_atSep82, rfl⟩, ⟨inv_atSep30, rfl⟩, inv_atTag, rfl⟩

theorem witness_ReservedCodesAreRejected :
    (selectorCode 0x9FF).toNat = 9 ∧ (selectorCode 0xA00).toNat = 10 ∧ (selectorCode 0xFFF).toNat = 15 := by decide

theorem witness_DecodeOfEncodeIsIdentity :
    (Instr.wf (.wsSkip 0) = true ∧ Instr.isEvent (.wsSkip 0) = true) ∧
      (Instr.wf .extract = true ∧ Instr.isEvent .extract = false) := by decide

theorem witness_EncodeOfDecodeIsIdentity : decode 0x9FF = .ok .done ∧ decode 0x8FF = .ok (.rgtAppend 0xFF) := by decide

/-! ### Witnesses of the step -/

theorem witness_StepRunsDecodedEvent :
    ((giving atTag (.byte 0xDA)).state ≠ .done ∧ (giving atTag (.byte 0xDA)).inputs = .byte 0xDA :: [] ∧
      decode (selector (giving atTag (.byte 0xDA)).state 0xDA) = .ok (.rgtAppend 0xDA)) ∧
      (mid .done 1 18 21 21 1 4 1 12).state = .done := by decide

theorem witness_StepRunsHostCall :
    atReady.state ≠ .done ∧ (giving atReady .reset).inputs = [.reset] ∧
      (giving atReady (.keyload keyText (.bytes []))).inputs = [.keyload keyText (.bytes [])] ∧
      (giving atReady .extract).inputs = [.extract] ∧ (giving atReady .forward).inputs = [.forward] ∧
      (giving atReady (.decrypt 0 [] [])).inputs = [.decrypt 0 [] []] ∧
      (giving atReady (.pipelineStep 0xDB 0)).inputs = [.pipelineStep 0xDB 0] := by decide

theorem witness_StepWithoutAnInstruction :
    atPayload.state ≠ .done ∧ atPayload.inputs = [] ∧ (giving atPayload (.setMode .forward)).inputs = [.setMode .forward] ∧
      (giving atPayload .transportError).inputs = [.transportError] := by decide

theorem witness_FeedIsTotal :
    (giving atPayload (.byte 0x55)).state ≠ .done ∧ (giving atPayload (.byte 0x55)).inputs = .byte 0x55 :: [] := by decide

/-- A concrete step that answers a next state, from a state of the invariant, with what it leaves; it serves every
statement whose hypothesis is `step s = .next t`. -/
theorem step_atTag : ∃ t, step (giving atTag (.byte 0xDA)) = .next t ∧ t.ready = true ∧ t.state = .waitStart :=
  ⟨(feed 0xDA atTag), next_of_nextOf (by decide), by decide +kernel, by decide +kernel⟩

theorem inv_giving {s : State} (x : Input) (h : Inv s) : Inv (giving s x) := ⟨h.1, h.2, h.3, h.4, h.5, h.6, h.7⟩

theorem witness_DoneIsNeverObserved : ∃ t, step (giving atTag (.byte 0xDA)) = .next t :=
  let ⟨t, h⟩ := step_atTag
  ⟨t, h.1⟩

theorem witness_ReadyExcludesError : ∃ t, step (giving atTag (.byte 0xDA)) = .next t ∧ t.ready = true :=
  let ⟨t, h⟩ := step_atTag
  ⟨t, h.1, h.2.1⟩

theorem witness_BytesFollowTransitionArrows :
    atTag.state ≠ .done ∧ (giving atTag (.byte 0xDA)).inputs = .byte 0xDA :: [] ∧
      ∃ t, step (giving atTag (.byte 0xDA)) = .next t :=
  ⟨by decide, rfl, witness_DoneIsNeverObserved⟩

/-- Each clause of `FieldEndsAtItsSize`, at the byte that ends the field and at the one before it. -/
theorem witness_FieldEndsAtItsSize :
    (Inv atTitle ∧ atTitle.state = .readTitle ∧ atTitle.systemTitle.length + 1 = atTitle.titleLen.toNat) ∧
      (Inv (atCounter 18) ∧ (atCounter 18).state = .readFrameCounter ∧ (atCounter 18).frameCounter.length = 3) ∧
      (Inv atPayload ∧ atPayload.state = .readPayload ∧
        atPayload.payload.length + 1 = atPayload.declaredLength.toNat - 17) ∧
      (Inv atTag ∧ atTag.state = .readGcmTag ∧ atTag.authTag.length = 11) :=
  ⟨⟨inv_atTitle, by decide⟩, ⟨inv_atCounter_18, by decide⟩, ⟨inv_atPayload, by decide⟩, inv_atTag, by decide⟩

/-- The title length field with both kinds of byte, and both bytes of the payload length field. -/
theorem witness_FieldEndsAtItsSize_lengths :
    (Inv atTitleLength ∧ atTitleLength.state = .readTitleLength ∧ (0 : Byte).toNat = 0 ∧ (1 : Byte).toNat ≠ 0) ∧
      (Inv atLengthFirst ∧ atLengthFirst.state = .readPayloadLength ∧
        atLengthFirst.pos.toNat ≠ atLengthFirst.titleLen.toNat + 2) ∧
      (Inv atLengthLast ∧ atLengthLast.state = .readPayloadLength ∧
        atLengthLast.pos.toNat = atLengthLast.titleLen.toNat + 2) :=
  ⟨⟨inv_atTitleLength, by decide⟩, ⟨inv_atLengthFirst, by decide⟩, inv_atLengthLast, by decide⟩

theorem witness_FieldEndsAtItsSize_before :
    (Inv (mid .readTitle 2 0 1 3 0 0 0 0) ∧ Inv (mid .readGcmTag 1 18 19 21 1 4 1 10)) :=
  ⟨inv_intro ⟨by decide, by decide, by decide, by decide, by decide, by decide, by decide, by decide, by decide⟩
    (by decide) (by decide) (by decide) (by decide) (by decide) (by decide),
   inv_intro ⟨by decide, by decide, by decide, by decide, by decide, by decide, by decide, by decide, by decide⟩
    (by decide) (by decide) (by decide) (by decide) (by decide) (by decide)⟩

theorem witness_StepKeepsInvariant :
    Inv (giving atTag (.byte 0xDA)) ∧ ∃ t, step (giving atTag (.byte 0xDA)) = .next t :=
  ⟨inv_giving _ inv_atTag, witness_DoneIsNeverObserved⟩

/-- Each of the three framing errors. -/
theorem witness_FramingErrorWritesNothingElse :
    (∃ t, step (giving atSep82 (.byte 0x83)) = .next t ∧ t.err ≠ .ok) ∧
      (∃ t, step (giving atSep30 (.byte 0x31)) = .next t ∧ t.err ≠ .ok) ∧
      (∃ t, step (giving (atCounter 16) (.byte 0x01)) = .next t ∧ t.err ≠ .ok) :=
  ⟨⟨feed 0x83 atSep82, next_of_nextOf (by decide), by decide +kernel⟩,
   ⟨feed 0x31 atSep30, next_of_nextOf (by decide), by decide +kernel⟩,
   ⟨feed 0x01 (atCounter 16), next_of_nextOf (by decide), by decide +kernel⟩⟩

/-! ### Witnesses of the streams -/

/-- The shortest frame (V42), from a state whose buffers are not empty. -/
theorem witness_FrameIsDelivered :
    ∃ s : State, s.state = .waitStart ∧ s.payload ≠ [] ∧ frameWf [] [0, 0, 0, 0] [] (List.replicate 12 0) = true ∧
      s.inputs = (frameBytes [] [0, 0, 0, 0] [] (List.replicate 12 0)).map .byte ++ [.extract] :=
  ⟨{ atReady with inputs := (frameBytes [] [0, 0, 0, 0] [] (List.replicate 12 0)).map .byte ++ [.extract] },
    rfl, by decide, by decide, rfl⟩

/-- The longest frame, and bytes of any kind waiting in `WaitStart`. -/
theorem witness_FrameIsDelivered_longest :
    frameWf (List.replicate 255 0) [0, 0, 0, 0] (List.replicate 65518 0) (List.replicate 12 0) = true ∧
      ∀ bs : Bytes, ∃ s : State, s.state = .waitStart ∧ s.inputs = bs.map .byte ++ [] :=
  ⟨test_frameWf_largest, fun bs => ⟨{ State.reset with inputs := bs.map .byte ++ [] }, rfl, rfl⟩⟩

theorem witness_AbortedFrameLeavesNoTrace :
    atSep82.state ≠ .done ∧ (feed 0x83 atSep82).err ≠ .ok ∧ (∀ x ∈ ([0xAA, 0xBB] : Bytes), x ≠ 0xDB) ∧
      frameWf [] [0, 0, 0, 0] [] (List.replicate 12 0) = true := by decide

/-- The shortest and the longest title, and the greatest length that is too small. -/
theorem witness_AbortConsumesCountedBytes :
    State.reset.state = .waitStart ∧ ([] : Bytes).length ≤ 255 ∧ 255 ≤ 255 ∧
      (0x83 : Byte) ≠ 0x82 ∧ (0x31 : Byte) ≠ 0x30 ∧ 16 < 17 ∧ ([0, 0, 0, 0] : Bytes).length = 4 := by decide

theorem witness_StreamWithoutMarkerIsSkipped :
    ∃ s : State, s.state = .waitStart ∧ ([0xDA, 0x82] : Bytes) ≠ [] ∧ (∀ x ∈ ([0xDA, 0x82] : Bytes), x ≠ 0xDB) ∧
      s.inputs = ([0xDA, 0x82] : Bytes).map .byte ++ [.extract] :=
  ⟨{ atReady with inputs := [.byte 0xDA, .byte 0x82, .extract] }, by decide, by decide, by decide, by decide⟩

theorem witness_ChunkBoundariesDoNotMatter : atPayload.state ≠ .done := by decide

/-! ### Witnesses of the host operations -/

theorem witness_ExtractReturnsNonceAndCipher :
    exampleTelegram.telegramValid = true ∧ atPayload.telegramValid = false := by decide

theorem witness_ForwardReturnsTriple : atReady.telegramValid = true ∧ State.reset.telegramValid = false := by decide

theorem witness_ExtractedLengths :
    ∃ t : State, Inv exampleTelegram ∧ exec .extract exampleTelegram = .next t ∧
      t.result = .extracted (nonceOf exampleTelegram) (cipherAndTagOf exampleTelegram) :=
  ⟨_, inv_exampleTelegram, rfl, rfl⟩

theorem witness_ForwardIsSplitExtraction :
    ∃ t u : State, Inv exampleTelegram ∧ exec .extract exampleTelegram = .next t ∧
      t.result = .extracted (nonceOf exampleTelegram) (cipherAndTagOf exampleTelegram) ∧
      exec .forward exampleTelegram = .next u :=
  ⟨_, _, inv_exampleTelegram, rfl, rfl, rfl⟩

theorem witness_HexAlphabet : hexValue 'a' = some 10 ∧ hexValue 'F' = some 15 ∧ hexValue 'g' = none := by decide

theorem allHex {cs : HexText} (h : cs.all isHexDigit = true) : ∀ c ∈ cs, isHexDigit c = true := List.all_eq_true.mp h

theorem witness_KeyloadConstructsDecryptor : keyText.length = 32 ∧ ∀ c ∈ keyText, isHexDigit c = true :=
  ⟨by decide, allHex (by decide)⟩

/-- Both clauses, at 31 and 33 characters and with one character outside the alphabet. -/
theorem witness_KeyloadRejectsBadKeyText :
    keyText.tail.length ≠ 32 ∧ ('0' :: keyText).length ≠ 32 ∧
      (badKeyText.length = 32 ∧ ∃ c ∈ badKeyText, isHexDigit c = false) :=
  ⟨by decide, by decide, by decide, 'G', by decide, by decide⟩

/-- A good AAD text, one of odd length, one with a character outside the alphabet, and a bad key text. -/
theorem witness_KeyloadDecodesAadText :
    (keyText.length = 32 ∧ ∀ c ∈ keyText, isHexDigit c = true) ∧
      (['3', '0'].length % 2 = 0 ∧ ∀ c ∈ ['3', '0'], isHexDigit c = true) ∧
      ['3'].length % 2 = 1 ∧ (∃ c ∈ ['3', 'x'], isHexDigit c = false) ∧ keyText.tail.length ≠ 32 :=
  ⟨witness_KeyloadConstructsDecryptor, ⟨by decide, allHex (by decide)⟩, by decide, ⟨'x', by decide, by decide⟩,
    by decide⟩

/-- A state with a Decryptor, and a step from it. -/
theorem witness_DecryptorsNeverChange :
    (keyed .decrypt atPayload).decryptors ≠ [] ∧
      ∃ t, step (giving (keyed .decrypt atPayload) (.byte 0x55)) = .next t :=
  ⟨by decide, feed 0x55 (keyed .decrypt atPayload), next_of_nextOf (by decide)⟩

/-- Each clause of `DecryptChecksInOrder`: 11 and 12 bytes, nonces of 11, 12 and 13, a bad tag, a good one, and no
Decryptor. -/
theorem witness_DecryptChecksInOrder :
    (keyed .decrypt State.reset).decryptors[0]? = some ⟨key, []⟩ ∧
      (List.replicate 11 (0 : Byte)).length < 12 ∧ 12 ≤ (List.replicate 12 (0 : Byte)).length ∧
      (List.replicate 11 (0 : Byte)).length ≠ 12 ∧ (List.replicate 13 (0 : Byte)).length ≠ 12 ∧
      (nonceOf exampleTelegram).length = 12 ∧
      gcmAd key (nonceOf exampleTelegram) [] exampleTelegram.payload exampleTelegram.authTag = some helloMeter ∧
      gcmAd key (nonceOf exampleTelegram) [] exampleTelegram.payload (List.replicate 12 0) = none ∧
      State.reset.decryptors[0]? = none := by decide +kernel

/-- A failure and a success. -/
theorem witness_FailureHasNoPlaintext :
    (decryptWith ⟨key, []⟩ [] []).ok = false ∧
      (decryptWith ⟨key, []⟩ (nonceOf exampleTelegram) (cipherAndTagOf exampleTelegram)).ok = true := by decide +kernel

theorem witness_GctrAddsKeyStream : 16 < (List.replicate 17 (0 : Byte)).length := by decide

theorem witness_DecryptOpensWhatWasSealed :
    (keyed .decrypt State.reset).decryptors[0]? = some ⟨key, []⟩ ∧ (nonceOf exampleTelegram).length = 12 := by decide

theorem witness_DecryptionPreservesLength :
    (decryptWith ⟨key, []⟩ (nonceOf exampleTelegram) (cipherAndTagOf exampleTelegram)).ok = true := by decide +kernel

theorem witness_ChangedTagIsDetected :
    exampleTelegram.authTag.length = 12 ∧ (exampleTelegram.authTag.set 11 0xDB).length = 12 ∧
      exampleTelegram.authTag.set 11 0xDB ≠ exampleTelegram.authTag ∧
      (decryptWith ⟨key, []⟩ (nonceOf exampleTelegram) (exampleTelegram.payload ++ exampleTelegram.authTag)).ok =
        true := by decide +kernel

/-- An instruction of each kind that the statement covers, with a Decryptor to replace. -/
theorem witness_KeysReachOnlyTheDecryptor :
    ([⟨0, [0x30]⟩] : List Decryptor).length = (keyed .decrypt exampleTelegram).decryptors.length ∧
      (∃ t, exec .extract (keyed .decrypt exampleTelegram) = .next t) ∧
      (∃ t, exec .forward (keyed .decrypt exampleTelegram) = .next t) ∧
      ((feed 0x55 (keyed .decrypt atPayload)).ready = false ∧
        ∃ t, exec (.pipelineStep 0x55 0) (keyed .decrypt atPayload) = .next t) ∧
      ((keyed .forward exampleBeforeLast).mode = .forward ∧
        ∃ t, exec (.pipelineStep 0xDA 0) (keyed .forward exampleBeforeLast) = .next t) :=
  ⟨rfl, ⟨_, rfl⟩, ⟨_, rfl⟩,
   ⟨by decide, feed 0x55 (keyed .decrypt atPayload), next_of_nextOf (by decide +kernel)⟩,
   rfl, (nextOf (exec (.pipelineStep 0xDA 0) (keyed .forward exampleBeforeLast))).getD State.reset,
    next_of_nextOf (by decide)⟩

/-- Each clause of `PipelineStepRunsTheSink`. -/
theorem witness_PipelineStepRunsTheSink :
    (feed 0x55 atPayload).ready = false ∧
      ((feed 0xDA (keyed .forward exampleBeforeLast)).ready = true ∧ (keyed .forward exampleBeforeLast).mode = .forward) ∧
      ((feed 0xDA (keyed .decrypt exampleBeforeLast)).ready = true ∧ (keyed .decrypt exampleBeforeLast).mode = .decrypt ∧
        (keyed .decrypt exampleBeforeLast).decryptors[0]? = some ⟨key, []⟩) ∧
      ((feed 0xDA exampleBeforeLast).ready = true ∧ exampleBeforeLast.mode = .decrypt ∧
        exampleBeforeLast.decryptors[0]? = none) := by decide

theorem witness_SealedFrameComesOutAsPlaintext :
    (keyed .decrypt State.reset).state = .waitStart ∧ (keyed .decrypt State.reset).mode = .decrypt ∧
      (keyed .decrypt State.reset).decryptors[0]? = some ⟨key, []⟩ ∧ exampleTelegram.systemTitle.length = 8 ∧
      exampleTelegram.frameCounter.length = 4 ∧ helloMeter.length ≤ 65518 := by decide

theorem witness_EventsIgnoreConfiguration : Instr.isEvent (.rtAppend 0xDB) = true := by decide

/-! ### Witnesses of the ports and of several instances -/

theorem witness_PortsShowTheTelegram :
    Inv exampleTelegram ∧ exampleTelegram.telegramValid = true ∧
      (7 : BitVec 8).toNat < exampleTelegram.systemTitle.length ∧
      (10 : BitVec 16).toNat < exampleTelegram.payload.length :=
  ⟨inv_exampleTelegram, by decide⟩

theorem inv_lastDecrypt (r : DecryptResult)
    (h : (r.ok = false → r.plaintext = []) ∧ (r.ok = true → r.status = .ok)) :
    Inv { State.reset with lastDecrypt := r } :=
  inv_intro inv_reset.layout inv_reset.capacity inv_reset.bound inv_reset.window inv_reset.delivered inv_reset.errors h

theorem inv_err (c : Cause) (h : c.isFeedResult = true)
    (d : (State.reset.ready = true → State.reset.telegramValid = true ∧ c = .ok)) :
    Inv { State.reset with err := c } :=
  inv_intro inv_reset.layout inv_reset.capacity inv_reset.bound inv_reset.window d ⟨h, fun _ => ⟨rfl, rfl⟩⟩
    inv_reset.verdict

/-- After a failure, and after a success at the last index of the plaintext and at the first index beyond the plaintext. -/
theorem witness_PlaintextPortShowsNoMore :
    (Inv State.reset ∧ State.reset.lastDecrypt.ok = false) ∧
      ∃ s : State, Inv s ∧ s.lastDecrypt.ok = true ∧ s.lastDecrypt.plaintext.length ≤ 65518 ∧
        (10 : BitVec 16).toNat < s.lastDecrypt.plaintext.length ∧
        (ptLenPort 0 s).toNat ≤ (11 : BitVec 16).toNat :=
  ⟨⟨inv_reset, rfl⟩, { State.reset with lastDecrypt := ⟨helloMeter, true, .ok⟩ },
    inv_lastDecrypt _ (by decide), rfl, by decide, by decide, by decide⟩

/-- Each status, and each framing error, in a state of the invariant. -/
theorem witness_PlaintextPortShowsNoMore_codes :
    (Inv { State.reset with lastDecrypt := ⟨[], false, .authenticationError⟩ } ∧
      Inv { State.reset with lastDecrypt := ⟨[], false, .nonceLength⟩ } ∧
      Inv { State.reset with lastDecrypt := ⟨[], false, .inputTooShort⟩ }) ∧
      Inv { State.reset with err := .badSep82 } ∧ Inv { State.reset with err := .badSep30 } ∧
      Inv { State.reset with err := .lengthUnderflow } :=
  ⟨⟨inv_lastDecrypt _ (by decide), inv_lastDecrypt _ (by decide), inv_lastDecrypt _ (by decide)⟩,
    inv_err _ (by decide) (by decide), inv_err _ (by decide) (by decide), inv_err _ (by decide) (by decide)⟩

theorem witness_ClockEdgeIsOneInvocation :
    (PortIn.mk true true 0xDB).rst = true ∧
      ((PortIn.mk false true 0xDB).rst = false ∧ (PortIn.mk false true 0xDB).inValid = true) ∧
      ((PortIn.mk false false 0xDB).rst = false ∧ (PortIn.mk false false 0xDB).inValid = false) ∧
      State.reset.telegramValid = false ∧
      (exampleTelegram.telegramValid = true ∧ exampleTelegram.decryptors[0]? = none) ∧
      ((keyed .decrypt exampleTelegram).telegramValid = true ∧
        (keyed .decrypt exampleTelegram).decryptors[0]? = some ⟨key, []⟩) := by decide

/-- The ports after V70 through `dec_start` (R128). -/
theorem test_decStart_ports :
    (nextOf (decStart 0 (keyed .decrypt exampleTelegram))).map
        (fun t => (decDonePort t, decOkPort t, decStatusPort t, ptLenPort 0 t, ptRdData 0 10 t, ptRdData 0 11 t)) =
      some (true, true, 0, 11, 0x52, 0) := by decide +kernel

/-- The codes of the cause table (R164). -/
theorem test_causeCodes :
    [Cause.ok, .badSep82, .badSep30, .lengthUnderflow, .keyConfigurationError, .authenticationError, .transportError,
      .nonceLength, .inputTooShort, .aadConfigurationError].map Cause.code = [0, 1, 2, 3, 4, 5, 6, 7, 8, 9] := by decide

/-- The key and AAD ports (R36, R128). -/
theorem test_keyPort : (keyPort ⟨key, [0x30, 0x11]⟩).extractLsb' 120 8 = 0x00 ∧
    (keyPort ⟨key, [0x30, 0x11]⟩).extractLsb' 0 8 = 0x0F ∧ aadLenPort ⟨key, [0x30, 0x11]⟩ = 2 ∧
    aadRdData 0 1 ⟨key, [0x30, 0x11]⟩ = 0x11 := by decide

theorem witness_InstancesDoNotInterfere :
    ∃ z w : System, (System.mk [giving atTag (.byte 0xDA), giving atSep82 (.byte 0x83)]).stepAt 0 = some z ∧
      (1 : Nat) ≠ 0 ∧ z.stepAt 1 = some w :=
  ⟨⟨[feed 0xDA atTag, giving atSep82 (.byte 0x83)]⟩, ⟨[feed 0xDA atTag, feed 0x83 atSep82]⟩,
    by decide, by decide, by decide +kernel⟩

end Sys2Proof.Tests
end

namespace Sys2Proof.Proofs

/-! One clock edge and one pulse on `dec_start` (O59): an equation for each configuration of the input ports, and
`dec_done` read off the host result of the step. -/

open Sys2Proof.Machine

/-- `dec_done` is down after a step that returned no host result. -/
theorem decDonePort_of_result_none {s : State} (h : s.result = .none) : decDonePort s = false := by
  simp [decDonePort, h]

/-- `rst` wins over whatever byte is presented (R187). -/
theorem clockEdge_of_rst {p : PortIn} (s : State) (hr : p.rst = true) : clockEdge p s = exec .reset s := if_pos hr

theorem clockEdge_of_inValid {p : PortIn} (s : State) (hr : p.rst = false) (hv : p.inValid = true) :
    clockEdge p s = .next (feed p.inByte s) := by simp [clockEdge, hr, hv]

theorem clockEdge_of_quiet {p : PortIn} (s : State) (hr : p.rst = false) (hv : p.inValid = false) :
    clockEdge p s = .next (idle s) := by simp [clockEdge, hr, hv]

/-- Neither `RESET`, nor `feed`, nor a quiet edge is a host operation with a result (log 3). -/
theorem clockEdge_result (p : PortIn) (s : State) : ∃ t, clockEdge p s = .next t ∧ t.result = .none := by
  rcases clockEdge_cases p s with ⟨_, e⟩ | ⟨_, _, e⟩ | ⟨_, _, e⟩
  · exact ⟨_, e, by simp⟩
  · exact ⟨_, e, feed_result p.inByte s⟩
  · exact ⟨_, e, idle_result s⟩

theorem decStart_of_no_telegram {s : State} (h : Nat) (hv : s.telegramValid = false) :
    decStart h s = .refused .noTelegram := by simp [decStart, hv]

/-- With a Telegram in the buffers a pulse on `dec_start` is `DECRYPT` on what `EXTRACT` gives (R108, R128). -/
theorem decStart_of_telegram {s : State} (h : Nat) (hv : s.telegramValid = true) :
    decStart h s = exec (.decrypt h (nonceOf s) (cipherAndTagOf s)) s := if_pos hv

theorem exec_decrypt_of_no_decryptor {s : State} {h : Nat} (n c : Bytes) (hd : s.decryptors[h]? = none) :
    exec (.decrypt h n c) s = .refused .noDecryptor := by
  rcases execDecrypt_cases h n c s with ⟨d, hd', _⟩ | ⟨_, e⟩
  · simp [hd] at hd'
  · exact e

/-- `DECRYPT` returns its result and holds it on the Decryptor's outputs (R123, R128). -/
theorem exec_decrypt_of_decryptor {s : State} {h : Nat} {d : Decryptor} (n c : Bytes)
    (hd : s.decryptors[h]? = some d) :
    ∃ t, exec (.decrypt h n c) s = .next t ∧ t.result = .decrypted (decryptWith d n c) ∧
      t.lastDecrypt = decryptWith d n c := by
  rcases execDecrypt_cases h n c s with ⟨d', hd', e⟩ | ⟨hd', _⟩
  · obtain rfl : d = d' := by simpa [hd] using hd'
    exact ⟨_, e, by simp, by simp⟩
  · simp [hd] at hd'

/-- Settles O59: the edge by the three configurations of `rst` and `in_valid`, the pulse by the window and by whether
the Decryptor exists. -/
theorem clockEdgeIsOneInvocation : Obligations.ClockEdgeIsOneInvocation := by
  unfold Obligations.ClockEdgeIsOneInvocation
  intro s p
  refine ⟨clockEdge_of_rst s, clockEdge_of_inValid s, fun hr hv => ?quiet, ?decDone, fun h => ⟨?shut, ?missing, ?run⟩⟩
  case quiet => exact ⟨idle s, clockEdge_of_quiet s hr hv, by simp [specOf], idle_telegramValid s⟩
  case decDone =>
    obtain ⟨t, ht, hres⟩ := clockEdge_result p s
    exact ⟨t, ht, decDonePort_of_result_none hres⟩
  case shut => exact decStart_of_no_telegram h
  case missing =>
    intro hv hd
    rw [decStart_of_telegram h hv, exec_decrypt_of_no_decryptor _ _ hd]
  case run =>
    intro hv d hd
    obtain ⟨t, ht, hres, hlast⟩ := exec_decrypt_of_decryptor (nonceOf s) (cipherAndTagOf s) hd
    have ok_eq : decOkPort t = (decryptWith d (nonceOf s) (cipherAndTagOf s)).ok := congrArg (·.ok) hlast
    have status_eq : decStatusPort t = (decryptWith d (nonceOf s) (cipherAndTagOf s)).status.code :=
      congrArg (·.status.code) hlast
    exact ⟨t, (decStart_of_telegram h hv).trans ht, ht, (decDonePort_iff t).mpr ⟨_, hres⟩, ok_eq, status_eq, hlast⟩

end Sys2Proof.Proofs

namespace Sys2Proof.Proofs

/-! What one invocation of `feed` and one step can do, each as a list of cases (R87, R102). The statements about every
step are read off these lists. -/

open Sys2Proof.Machine

/-- The outcomes of one invocation of `feed`, one constructor for each arrow of the transition table and each byte that
stays on its state (R102). The last one is the byte given in `Done`, which no run reaches (log 9). -/
inductive FeedStep (b : Byte) (s : State) : State → Prop
  | start (hs : s.state = .waitStart) (hb : b = 0xDB) :
      FeedStep b s (enter .readTitleLength (clearTelegram (giveNothing s)))
  | skip (hs : s.state = .waitStart) (hb : b ≠ 0xDB) : FeedStep b s (giveNothing s)
  | emptyTitle (hs : s.state = .readTitleLength) (hb : b = 0) :
      FeedStep b s (enter .readSep82 (setTarget (titleTarget b) (setTitleLen b (countByte (giveNothing s)))))
  | titleLength (hs : s.state = .readTitleLength) (hb : b ≠ 0) :
      FeedStep b s (enter .readTitle (setTarget (titleTarget b) (setTitleLen b (countByte (giveNothing s)))))
  | titleByte (hs : s.state = .readTitle) (hp : s.pos + 1 ≠ s.target) :
      FeedStep b s (appendTitle b (countByte (giveNothing s)))
  | titleEnd (hs : s.state = .readTitle) (hp : s.pos + 1 = s.target) :
      FeedStep b s (enter .readSep82 (appendTitle b (countByte (giveNothing s))))
  | goodSep82 (hs : s.state = .readSep82) (hb : b = 0x82) :
      FeedStep b s (enter .readPayloadLength (advanceTarget 2 (giveNothing s)))
  | badSep82 (hs : s.state = .readSep82) (hb : b ≠ 0x82) : FeedStep b s (raiseFramingError .badSep82 s)
  | lengthByte (hs : s.state = .readPayloadLength) (hp : s.pos + 1 ≠ s.target) :
      FeedStep b s (setDeclaredLength (shiftInByte s.declaredLength b) (countByte (giveNothing s)))
  | lengthEnd (hs : s.state = .readPayloadLength) (hp : s.pos + 1 = s.target) :
      FeedStep b s
        (enter .readSep30 (setDeclaredLength (shiftInByte s.declaredLength b) (countByte (giveNothing s))))
  | goodSep30 (hs : s.state = .readSep30) (hb : b = 0x30) :
      FeedStep b s (enter .readFrameCounter (advanceTarget 4 (giveNothing s)))
  | badSep30 (hs : s.state = .readSep30) (hb : b ≠ 0x30) : FeedStep b s (raiseFramingError .badSep30 s)
  | counterByte (hs : s.state = .readFrameCounter) (hp : s.pos + 1 ≠ s.target) :
      FeedStep b s (appendCounter b (countByte (giveNothing s)))
  | lengthUnderflow (hs : s.state = .readFrameCounter) (hp : s.pos + 1 = s.target)
      (hL : s.declaredLength.toNat < 17) :
      FeedStep b s (raiseFramingError .lengthUnderflow (appendCounter b (countByte (giveNothing s))))
  | emptyPayload (hs : s.state = .readFrameCounter) (hp : s.pos + 1 = s.target)
      (hL : s.declaredLength.toNat = 17) :
      FeedStep b s (enter .readGcmTag (advanceTarget 12 (appendCounter b (countByte (giveNothing s)))))
  | payloadSized (hs : s.state = .readFrameCounter) (hp : s.pos + 1 = s.target)
      (hL : 17 < s.declaredLength.toNat) :
      FeedStep b s (enter .readPayload
        (advanceTarget (s.declaredLength.toNat - 17) (appendCounter b (countByte (giveNothing s)))))
  | payloadByte (hs : s.state = .readPayload) (hp : s.pos + 1 ≠ s.target) :
      FeedStep b s (appendPayload b (countByte (giveNothing s)))
  | payloadEnd (hs : s.state = .readPayload) (hp : s.pos + 1 = s.target) :
      FeedStep b s (enter .readGcmTag (advanceTarget 12 (appendPayload b (countByte (giveNothing s)))))
  | tagByte (hs : s.state = .readGcmTag) (hp : s.pos + 1 ≠ s.target) :
      FeedStep b s (appendTag b (countByte (giveNothing s)))
  | tagEnd (hs : s.state = .readGcmTag) (hp : s.pos + 1 = s.target) :
      FeedStep b s (deliver (appendTag b (countByte (giveNothing s))))
  | passage (hs : s.state = .done) : FeedStep b s (deliver s)

/-- `RFC.APPEND` in its four outcomes (R97). -/
theorem feedStep_in_readFrameCounter {s : State} (b : Byte) (hs : s.state = .readFrameCounter) :
    FeedStep b s (feed b s) := by
  rw [feed_in_readFrameCounter b hs]
  by_cases hp : s.pos + 1 = s.target
  · rw [rfcAppendNext_last b hp]
    rcases sizePayload_cases (appendCounter b (countByte (giveNothing s))) with ⟨hL, e⟩ | ⟨hL, e⟩ | ⟨hL, e⟩
    · exact e ▸ .lengthUnderflow hs hp hL
    · exact e ▸ .emptyPayload hs hp hL
    · exact e ▸ .payloadSized hs hp hL
  · exact rfcAppendNext_more b hp ▸ .counterByte hs hp

/-- Every invocation of `feed` is one of the outcomes of the transition table. -/
theorem feedStep (b : Byte) (s : State) : FeedStep b s (feed b s) := by
  cases hs : s.state with
  | waitStart =>
    rw [feed_in_waitStart b hs]
    split
    · exact .start hs ‹_›
    · exact .skip hs ‹_›
  | readTitleLength =>
    rw [feed_in_readTitleLength b hs, rtlSetNext]
    split
    · exact .emptyTitle hs ‹_›
    · exact .titleLength hs ‹_›
  | readTitle =>
    rw [feed_in_readTitle b hs]
    by_cases hp : s.pos + 1 = s.target
    · exact rtAppendNext_last b hp ▸ .titleEnd hs hp
    · exact rtAppendNext_more b hp ▸ .titleByte hs hp
  | readSep82 =>
    rw [feed_in_readSep82 b hs]
    split
    · exact .goodSep82 hs ‹_›
    · exact .badSep82 hs ‹_›
  | readPayloadLength =>
    rw [feed_in_readPayloadLength b hs]
    by_cases hp : s.pos + 1 = s.target
    · exact rplShiftNext_last b hp ▸ .lengthEnd hs hp
    · exact rplShiftNext_more b hp ▸ .lengthByte hs hp
  | readSep30 =>
    rw [feed_in_readSep30 b hs]
    split
    · exact .goodSep30 hs ‹_›
    · exact .badSep30 hs ‹_›
  | readFrameCounter => exact feedStep_in_readFrameCounter b hs
  | readPayload =>
    rw [feed_in_readPayload b hs]
    by_cases hp : s.pos + 1 = s.target
    · exact rpAppendNext_last b hp ▸ .payloadEnd hs hp
    · exact rpAppendNext_more b hp ▸ .payloadByte hs hp
  | readGcmTag =>
    rw [feed_in_readGcmTag b hs]
    split
    · exact .tagEnd hs ‹_›
    · exact .tagByte hs ‹_›
  | done => exact feed_in_done b hs ▸ .passage hs

theorem feed_state_ne_done (b : Byte) (s : State) : (feed b s).state ≠ .done := finishNext_state_ne_done _

/-- What a host operation makes of the state. -/
inductive HostStep (s : State) : State → Prop
  | reset : HostStep s (enter .waitStart (clearTelegram (giveNothing s)))
  | constructed (d : Decryptor) (r : HostResult) : HostStep s (addDecryptor d (giveResults false .ok r s))
  | returned (r : HostResult) : HostStep s (giveResults false .ok r s)
  | decrypted (d : Decryptor) (nonce c : Bytes) (r : HostResult) :
      HostStep s (holdDecryption (decryptWith d nonce c) (giveResults false .ok r s))
  | fed (b : Byte) : HostStep s (feed b s)
  | fedForward (b : Byte) (r : HostResult) :
      HostStep s (giveResults (feed b s).ready (feed b s).err r (feed b s))
  | fedDecrypt (b : Byte) (d : Decryptor) (nonce c : Bytes) (r : HostResult) :
      HostStep s (holdDecryption (decryptWith d nonce c) (giveResults (feed b s).ready (feed b s).err r (feed b s)))

/-- What `PIPELINE_STEP` can answer: `feed` alone, or `feed` and a sink (R156). -/
theorem hostStep_of_pipelineStep {b : Byte} {handle : Nat} {s t : State}
    (h : exec (.pipelineStep b handle) s = .next t) : HostStep s t := by
  change execPipelineStep b handle s = .next t at h
  unfold execPipelineStep at h
  dsimp only at h
  split at h
  · rcases runSink_cases handle (feed b s) with ⟨_, e⟩ | ⟨_, d, _, e⟩ | ⟨_, _, e⟩ <;> rw [e] at h <;> cases h
    · exact .fedForward ..
    · exact .fedDecrypt ..
  · cases h
    exact .fed b

/-- A host operation that answers a next state is one of the outcomes listed. -/
theorem hostStep_of_exec {i : Instr} {s t : State} (hi : i.isEvent = false) (h : exec i s = .next t) :
    HostStep s t := by
  cases i with
  | reset => cases h; exact .reset
  | keyload hex aad =>
    change execKeyload hex aad s = .next t at h
    rcases execKeyload_cases hex aad s with ⟨d, _, e⟩ | ⟨c, _, e⟩ <;> rw [e] at h <;> cases h
    · exact .constructed ..
    · exact .returned _
  | extract =>
    change (if s.telegramValid then _ else _) = _ at h
    split at h <;> cases h
    exact .returned _
  | forward =>
    change (if s.telegramValid then _ else _) = _ at h
    split at h <;> cases h
    exact .returned _
  | decrypt handle nonce c =>
    change execDecrypt handle nonce c s = .next t at h
    rcases execDecrypt_cases handle nonce c s with ⟨d, _, e⟩ | ⟨_, e⟩ <;> rw [e] at h <;> cases h
    exact .decrypted ..
  | pipelineStep b handle => exact hostStep_of_pipelineStep h
  | _ => simp [Instr.isEvent] at hi

/-- A host operation does not enter `Done`. -/
theorem HostStep.state_ne_done {s t : State} (h : HostStep s t) (hd : s.state ≠ .done) : t.state ≠ .done := by
  cases h with
  | reset => simp
  | constructed | returned | decrypted => simpa using hd
  | fed b => exact feed_state_ne_done b s
  | fedForward b | fedDecrypt b => simpa using feed_state_ne_done b s

/-- What one step makes of the state. -/
inductive StepOutcome (s : State) : State → Prop
  /-- The step from `Done`, which no run reaches (log 9). -/
  | passage (hd : s.state = .done) : StepOutcome s (deliver s)
  | waited (hd : s.state ≠ .done) : StepOutcome s (idle s)
  | tookByte (hd : s.state ≠ .done) (b : Byte) (rest : List Input) : StepOutcome s (feed b (withInputs rest s))
  | choseMode (hd : s.state ≠ .done) (m : Sink) (rest : List Input) : StepOutcome s (setMode m (withInputs rest s))
  | hostCall (hd : s.state ≠ .done) (rest : List Input) {t : State} (h : HostStep (withInputs rest s) t) :
      StepOutcome s t

/-- A byte of the stream is fetched as the event that the decoder reads, or rejected (R71, R72, R76). -/
theorem fetchEvent_cases (st : ParserState) (b : Byte) (rest : List Input) :
    (∃ i, decode (selector st b) = .ok i ∧ fetchEvent st b rest = .instr i rest) ∨
      ∃ r, fetchEvent st b rest = .rejected r := by
  unfold fetchEvent
  cases hdec : decode (selector st b) with
  | ok i => exact .inl ⟨i, rfl, rfl⟩
  | error r => exact .inr ⟨r, rfl⟩

/-- Outside `Done` the instruction fetched is the event of a byte, or a host operation (R72, R83). -/
theorem fetchInput_instr {st : ParserState} {input : Input} {i : Instr} {inputs rest : List Input}
    (h : fetchInput st input inputs = .instr i rest) :
    (∃ b, decode (selector st b) = .ok i) ∨ i.isEvent = false := by
  cases input with
  | byte b =>
    change fetchEvent st b inputs = .instr i rest at h
    rcases fetchEvent_cases st b inputs with ⟨j, hdec, e⟩ | ⟨r, e⟩ <;> rw [e] at h <;> cases h
    exact .inl ⟨b, hdec⟩
  | setMode m => cases h
  | transportError => cases h
  | _ => cases h; exact .inr rfl

/-- An invocation whose event the decoder read is `feed` of the byte (R87). -/
theorem eq_feed_of_decoded {s u : State} {b : Byte} {i : Instr} {rest : List Input}
    (hdec : decode (selector s.state b) = .ok i) (he : exec i (withInputs rest s) = .next u) :
    finishNext u = feed b (withInputs rest s) := by
  have hfeed : exec i (withInputs rest s) = .next (eventNext b (withInputs rest s)) := exec_decoded_event hdec
  rw [hfeed] at he
  cases he
  rfl

/-- A step that answers a next state is one of the outcomes listed. -/
theorem stepOutcome {s t : State} (h : step s = .next t) : StepOutcome s t := by
  by_cases hd : s.state = .done
  · have hstep : step s = .next (finishNext (doneNext (withInputs s.inputs s))) := by
      rw [step, fetch_done hd]
      rfl
    rw [hstep] at h
    cases h
    exact .passage hd
  · rcases step_inversion h with ⟨_, rfl⟩ | ⟨i, rest, u, hf, he, rfl⟩ | ⟨m, rest, _, rfl⟩
    · exact .waited hd
    · cases hi : s.inputs with
      | nil => simp [fetch_nothing hd hi] at hf
      | cons input inputs =>
        rw [fetch_input hd hi] at hf
        rcases fetchInput_instr hf with ⟨b, hdec⟩ | hhost
        · exact eq_feed_of_decoded hdec he ▸ .tookByte hd b rest
        · have hu : HostStep (withInputs rest s) u := hostStep_of_exec hhost he
          exact (finishNext_of_ne_done (hu.state_ne_done hd)).symm ▸ .hostCall hd rest hu
    · exact .choseMode hd m rest

/-- A step that takes a byte of the stream is `feed` of that byte, with the byte gone (R46, R87). -/
theorem step_byte {s t : State} {b : Byte} {rest : List Input} (hd : s.state ≠ .done)
    (hi : s.inputs = .byte b :: rest) (h : step s = .next t) : t = feed b (withInputs rest s) := by
  have hfetch : fetch s = fetchEvent s.state b rest := fetch_input hd hi
  rcases fetchEvent_cases s.state b rest with ⟨i, hdec, e⟩ | ⟨r, e⟩
  · rcases step_inversion h with ⟨hf, _⟩ | ⟨j, _, u, hf, he, rfl⟩ | ⟨m, _, hf, _⟩ <;>
      rw [hfetch, e] at hf <;> cases hf
    exact eq_feed_of_decoded hdec he
  · rcases step_inversion h with ⟨hf, _⟩ | ⟨_, _, _, hf, _⟩ | ⟨_, _, hf, _⟩ <;>
      rw [hfetch, e] at hf <;> cases hf

end Sys2Proof.Proofs

namespace Sys2Proof.Proofs

/-! Statements about every step, read off its outcomes: `Done` is never left behind (O27), `ready` and a framing error
exclude each other (O28), bytes follow the arrows of the transition table (O29), Decryptors stay (O46). -/

open Sys2Proof.Machine

/-- Settles O27: the passage through `Done` is taken within the step, and nothing else enters `Done`. -/
theorem doneIsNeverObserved : Obligations.DoneIsNeverObserved := by
  unfold Obligations.DoneIsNeverObserved
  intro s t h
  cases stepOutcome h with
  | passage => simp
  | waited hd | choseMode hd => simpa using hd
  | tookByte hd b => exact feed_state_ne_done b _
  | hostCall hd rest hu => exact hu.state_ne_done hd

/-- `ready` comes with no error, and an error is a result of `feed` (R34). -/
def ResultsExclusive (s : State) : Prop := (s.ready = true → s.err = .ok) ∧ s.err.isFeedResult = true

/-- A step that reports nothing. -/
theorem resultsExclusive_of_silent {s : State} (he : s.err = .ok) : ResultsExclusive s := by
  simp [ResultsExclusive, he, Cause.isFeedResult]

theorem resultsExclusive_raiseFramingError {c : Cause} (hc : c.isFeedResult = true) (s : State) :
    ResultsExclusive (raiseFramingError c s) := by
  simp [ResultsExclusive, hc]

/-- Of the outcomes of `feed` only the three framing errors report an error, and they report no `ready` (R169). -/
theorem FeedStep.resultsExclusive {b : Byte} {s t : State} (h : FeedStep b s t) : ResultsExclusive t := by
  cases h with
  | badSep82 | badSep30 | lengthUnderflow => exact resultsExclusive_raiseFramingError rfl _
  | _ => exact resultsExclusive_of_silent (by simp)

theorem HostStep.resultsExclusive {s t : State} (h : HostStep s t) : ResultsExclusive t := by
  cases h with
  | reset | constructed | returned | decrypted => exact resultsExclusive_of_silent (by simp)
  | fed b => exact (feedStep b s).resultsExclusive
  | fedForward b | fedDecrypt b => simpa [ResultsExclusive] using (feedStep b s).resultsExclusive

/-- Settles O28: a framing error comes from `feed` alone, where it excludes `ready`. -/
theorem readyExcludesError : Obligations.ReadyExcludesError := by
  unfold Obligations.ReadyExcludesError
  intro s t h
  cases stepOutcome h with
  | passage | waited | choseMode => exact resultsExclusive_of_silent (by simp)
  | tookByte hd b => exact (feedStep b _).resultsExclusive
  | hostCall hd rest hu => exact hu.resultsExclusive

/-- Each outcome of `feed` outside `Done` is an arrow of the transition table (R102). -/
theorem FeedStep.follows_arrow {b : Byte} {s t : State} (h : FeedStep b s t) (hd : s.state ≠ .done) :
    (s.state, t.state) ∈ transitionArrows := by
  cases h with
  | passage hs => exact absurd hs hd
  | _ => simp [transitionArrows, *]

/-- Settles O29: a step that takes a byte is `feed` of it, and each outcome of `feed` is an arrow. -/
theorem bytesFollowTransitionArrows : Obligations.BytesFollowTransitionArrows := by
  unfold Obligations.BytesFollowTransitionArrows
  intro s t b rest hd hi h
  rw [step_byte hd hi h]
  exact (feedStep b (withInputs rest s)).follows_arrow hd

/-- `feed` leaves the Decryptors as they are (R113). -/
theorem feed_decryptors (b : Byte) (s : State) : (feed b s).decryptors = s.decryptors :=
  (feed_configuration b s).1

/-- A host operation can add a Decryptor and no more (log 4). -/
theorem HostStep.keeps_decryptors {s t : State} (h : HostStep s t) : s.decryptors <+: t.decryptors := by
  cases h with
  | constructed d r => simp
  | reset | returned | decrypted => simp
  | fed b | fedForward b | fedDecrypt b => simp [feed_decryptors]

/-- Settles O46: of all the outcomes of a step only a construction touches the list, at its end. -/
theorem decryptorsNeverChange : Obligations.DecryptorsNeverChange := by
  unfold Obligations.DecryptorsNeverChange
  intro s t h
  cases stepOutcome h with
  | passage | waited | choseMode => simp
  | tookByte hd b => simp [feed_decryptors]
  | hostCall hd rest hu => exact hu.keeps_decryptors

end Sys2Proof.Proofs

namespace Sys2Proof.Proofs

/-! The invariant (O2, O31): the rows of R32 as a function of the state, what they give of capacities and bounds, and
the outcomes of `feed` one by one. -/

open Sys2Proof.Machine

/-! ### The rows -/

/-- The row of R32 that `layoutHolds` demands in a given framing state. -/
def layoutRow (s : State) : ParserState → Prop
  | .waitStart => True
  | .readTitleLength =>
    s.pos.toNat = 0 ∧ s.target.toNat = 0 ∧ holdsLengths s 0 0 0 0 ∧ s.titleLen.toNat = 0 ∧ s.declaredLength.toNat = 0
  | .readTitle =>
    1 ≤ s.pos.toNat ∧ s.pos.toNat < s.target.toNat ∧ s.target.toNat = 1 + s.titleLen.toNat ∧
      holdsLengths s (s.pos.toNat - 1) 0 0 0 ∧ 1 ≤ s.titleLen.toNat ∧ s.declaredLength.toNat = 0
  | .readSep82 =>
    s.pos.toNat = 1 + s.titleLen.toNat ∧ s.target.toNat = 1 + s.titleLen.toNat ∧
      holdsLengths s s.titleLen.toNat 0 0 0 ∧ s.declaredLength.toNat = 0
  | .readPayloadLength =>
    s.target.toNat = s.titleLen.toNat + 3 ∧ holdsLengths s s.titleLen.toNat 0 0 0 ∧
      ((s.pos.toNat = s.titleLen.toNat + 1 ∧ s.declaredLength.toNat = 0) ∨
        (s.pos.toNat = s.titleLen.toNat + 2 ∧ s.declaredLength.toNat < 256))
  | .readSep30 =>
    s.pos.toNat = s.titleLen.toNat + 3 ∧ s.target.toNat = s.titleLen.toNat + 3 ∧
      holdsLengths s s.titleLen.toNat 0 0 0
  | .readFrameCounter =>
    s.target.toNat = s.titleLen.toNat + 7 ∧ s.titleLen.toNat + 3 ≤ s.pos.toNat ∧
      s.pos.toNat ≤ s.titleLen.toNat + 6 ∧
      holdsLengths s s.titleLen.toNat (s.pos.toNat - (s.titleLen.toNat + 3)) 0 0
  | .readPayload =>
    s.target.toNat = s.titleLen.toNat + s.declaredLength.toNat - 10 ∧ s.titleLen.toNat + 7 ≤ s.pos.toNat ∧
      s.pos.toNat < s.target.toNat ∧ 17 < s.declaredLength.toNat ∧
      holdsLengths s s.titleLen.toNat 4 (s.pos.toNat - (s.titleLen.toNat + 7)) 0
  | .readGcmTag =>
    s.target.toNat = s.titleLen.toNat + s.declaredLength.toNat + 2 ∧
      s.titleLen.toNat + s.declaredLength.toNat - 10 ≤ s.pos.toNat ∧ s.pos.toNat < s.target.toNat ∧
      17 ≤ s.declaredLength.toNat ∧
      holdsLengths s s.titleLen.toNat 4 (s.declaredLength.toNat - 17)
        (s.pos.toNat - (s.titleLen.toNat + s.declaredLength.toNat - 10))
  | .done => False

/-- `layoutHolds` is the row of the present state. -/
theorem layoutHolds_iff_row (s : State) : layoutHolds s ↔ layoutRow s s.state := by
  cases h : s.state <;> simp [layoutHolds, layoutRow, h]

/-- The capacities of R20 and R52. -/
def WithinCapacity (s : State) : Prop :=
  s.systemTitle.length ≤ 255 ∧ s.frameCounter.length ≤ 4 ∧ s.payload.length ≤ 65518 ∧ s.authTag.length ≤ 12

/-- The bound of R29 on the position registers: `255 + 65535 + 2`. -/
def WithinBound (s : State) : Prop := s.pos.toNat ≤ 65792 ∧ s.target.toNat ≤ 65792

/-- What the Decryptor's outputs hold agrees with its verdict (R124, R125). -/
def VerdictHolds (r : DecryptResult) : Prop :=
  (r.ok = false → r.plaintext = []) ∧ (r.ok = true → r.status = .ok)

/-- Between the start marker and the delivery the row alone bounds every buffer and both position registers. -/
theorem bounds_of_row {s : State} {st : ParserState} (hst : st ≠ .waitStart) (row : layoutRow s st) :
    WithinCapacity s ∧ WithinBound s := by
  have titleLen_lt : s.titleLen.toNat < 256 := s.titleLen.isLt
  have declaredLength_lt : s.declaredLength.toNat < 65536 := s.declaredLength.isLt
  cases st <;> simp only [layoutRow, holdsLengths] at row
  case waitStart => exact absurd rfl hst
  all_goals
    unfold WithinCapacity WithinBound
    omega

/-! ### What the invariant gives -/

/-- The row of the present state. -/
theorem row_of_inv {s : State} {st : ParserState} (hs : Inv s) (h : s.state = st) : layoutRow s st :=
  h ▸ (layoutHolds_iff_row s).mp hs.layout

/-- While a frame is being read the window of R44 is shut. -/
theorem telegramValid_of_reading {s : State} {st : ParserState} (hs : Inv s) (h : s.state = st)
    (hst : st ≠ .waitStart) : s.telegramValid = false :=
  Bool.eq_false_iff.mpr fun hv => hst (h.symm.trans (hs.window hv).1)

/-- Counting a byte does not wrap (R27, R29). -/
theorem pos_succ_toNat {s : State} (hs : Inv s) : (s.pos + 1).toNat = s.pos.toNat + 1 := by
  obtain ⟨hpos, _⟩ := hs.bound
  simp only [BitVec.toNat_add, BitVec.ofNat_eq_ofNat, BitVec.toNat_ofNat]
  omega

/-- The comparison of a counting event, on natural numbers (R102). -/
theorem pos_succ_eq_target_iff {s : State} (hs : Inv s) :
    s.pos + 1 = s.target ↔ s.pos.toNat + 1 = s.target.toNat := by
  rw [← BitVec.toNat_inj, pos_succ_toNat hs]

/-- `1 + b` does not wrap (R90). -/
theorem titleTarget_toNat (b : Byte) : (titleTarget b).toNat = 1 + b.toNat := by
  rw [titleTarget, BitVec.toNat_ofNat]
  omega

/-- The first byte of the length field stands alone (R94). -/
theorem shiftInByte_of_zero {len : BitVec 16} (h : len.toNat = 0) (b : Byte) :
    (shiftInByte len b).toNat = b.toNat := by
  obtain rfl : len = 0 := BitVec.eq_of_toNat_eq h
  simp [shiftInByte]
  omega

/-! ### How the invariant is established -/

/-- A state that reads a frame meets the invariant by its row: bounds follow, and the window and the results are
quiet. -/
theorem inv_of_row {s : State} (st : ParserState) (h : s.state = st) (hst : st ≠ .waitStart) (row : layoutRow s st)
    (shut : s.telegramValid = false) (silent : s.ready = false) (noError : s.err = .ok)
    (verdict : VerdictHolds s.lastDecrypt) : Inv s where
  layout := (layoutHolds_iff_row s).mpr (h ▸ row)
  capacity := (bounds_of_row hst row).1
  bound := (bounds_of_row hst row).2
  window hv := by simp [shut] at hv
  delivered hr := by simp [silent] at hr
  errors := by simp [noError, Cause.isFeedResult]
  verdict := verdict

/-- A state that waits with the window shut meets the invariant by its bounds: no row relates its fields. -/
theorem inv_of_waiting {s : State} (h : s.state = .waitStart) (capacity : WithinCapacity s) (bound : WithinBound s)
    (shut : s.telegramValid = false) (silent : s.ready = false) (feedError : s.err.isFeedResult = true)
    (verdict : VerdictHolds s.lastDecrypt) : Inv s where
  layout := (layoutHolds_iff_row s).mpr (h ▸ trivial)
  capacity := capacity
  bound := bound
  window hv := by simp [shut] at hv
  delivered hr := by simp [silent] at hr
  errors := ⟨feedError, fun _ => ⟨h, shut⟩⟩
  verdict := verdict

/-- A complete Telegram is within the capacities and bounds. -/
theorem bounds_of_telegramComplete {s : State} (h : telegramComplete s) : WithinCapacity s ∧ WithinBound s := by
  have titleLen_lt : s.titleLen.toNat < 256 := s.titleLen.isLt
  have declaredLength_lt : s.declaredLength.toNat < 65536 := s.declaredLength.isLt
  unfold WithinCapacity WithinBound
  simp only [telegramComplete, holdsLengths] at h
  omega

/-- The passage through `Done` meets the invariant when the Telegram is complete (R44, R100). -/
theorem inv_deliver {s : State} (complete : telegramComplete s) (verdict : VerdictHolds s.lastDecrypt) :
    Inv (deliver s) where
  layout := (layoutHolds_iff_row _).mpr trivial
  capacity := (bounds_of_telegramComplete complete).1
  bound := (bounds_of_telegramComplete complete).2
  window _ := ⟨rfl, complete⟩
  delivered _ := ⟨rfl, rfl⟩
  errors := by simp [Cause.isFeedResult]
  verdict := verdict

/-- Settles O2: after reset the machine waits, with every buffer empty and every register 0. -/
theorem resetMeetsInvariant : Obligations.ResetMeetsInvariant :=
  inv_of_waiting rfl (by simp [WithinCapacity, State.reset]) (by simp [WithinBound, State.reset]) rfl rfl rfl
    (by simp [VerdictHolds, State.reset])

/-! ### The outcomes of `feed` -/

/-- An outcome of `feed` that goes on reading a frame reaches the row of its state: the old row, one byte more in one
buffer and in `pos`, and the target of the next field where the old one is reached (R102). -/
theorem FeedStep.row {b : Byte} {s t : State} (h : FeedStep b s t) (hs : Inv s) (ht : t.state ≠ .waitStart) :
    layoutRow t t.state := by
  have titleLen_lt : s.titleLen.toNat < 256 := s.titleLen.isLt
  have declaredLength_lt : s.declaredLength.toNat < 65536 := s.declaredLength.isLt
  have last := pos_succ_eq_target_iff hs
  cases h with
  | start => simp [layoutRow, holdsLengths]
  | skip h => exact absurd h ht
  | badSep82 | badSep30 | lengthUnderflow | tagEnd | passage => exact absurd rfl ht
  | emptyTitle h hb =>
    have row := row_of_inv hs h
    simp [layoutRow, holdsLengths, titleTarget_toNat, hb, -List.length_eq_zero_iff] at row ⊢
    omega
  | titleLength h hb =>
    have row := row_of_inv hs h
    have titleLen_pos : 0 < b.toNat := Nat.pos_of_ne_zero fun h0 => hb (BitVec.eq_of_toNat_eq h0)
    simp [layoutRow, holdsLengths, titleTarget_toNat, -List.length_eq_zero_iff] at row ⊢
    omega
  | goodSep82 h | goodSep30 h =>
    have row := row_of_inv hs h
    simp [layoutRow, holdsLengths, -List.length_eq_zero_iff] at row ⊢
    omega
  | lengthByte h hp =>
    have row := row_of_inv hs h
    have shifted := shiftInByte_of_zero (len := s.declaredLength) (b := b)
    simp only [ne_eq, last] at hp
    simp [layoutRow, holdsLengths, h, -List.length_eq_zero_iff] at row ⊢
    omega
  | titleByte h hp | titleEnd h hp | lengthEnd h hp | counterByte h hp | emptyPayload h hp
  | payloadSized h hp | payloadByte h hp | payloadEnd h hp | tagByte h hp =>
    have row := row_of_inv hs h
    simp only [ne_eq, last] at hp
    simp [layoutRow, holdsLengths, h, -List.length_eq_zero_iff] at row ⊢
    omega

/-- Error 3 is raised with the fourth counter byte stored and counted, within capacity and bound (R97, R170). -/
theorem inv_lengthUnderflow {s : State} (hs : Inv s) (h : s.state = .readFrameCounter) (b : Byte) :
    Inv (raiseFramingError .lengthUnderflow (appendCounter b (countByte (giveNothing s)))) := by
  have row := row_of_inv hs h
  have titleLen_lt : s.titleLen.toNat < 256 := s.titleLen.isLt
  have shut := telegramValid_of_reading hs h (by decide)
  refine inv_of_waiting rfl ?capacity ?bound shut rfl rfl hs.verdict
  all_goals simp [layoutRow, holdsLengths, WithinCapacity, WithinBound, -List.length_eq_zero_iff] at row ⊢
  all_goals omega

/-- The tag byte that reaches the target completes the Telegram (R32, R99). -/
theorem telegramComplete_of_last_tag_byte {s : State} (hs : Inv s) (h : s.state = .readGcmTag)
    (hp : s.pos + 1 = s.target) (b : Byte) : telegramComplete (appendTag b (countByte (giveNothing s))) := by
  have row := row_of_inv hs h
  have last := (pos_succ_eq_target_iff hs).mp hp
  have titleLen_lt : s.titleLen.toNat < 256 := s.titleLen.isLt
  have declaredLength_lt : s.declaredLength.toNat < 65536 := s.declaredLength.isLt
  simp [telegramComplete, layoutRow, holdsLengths] at row ⊢
  omega

/-- New results keep the invariant when they keep its two clauses about them (R34, R44, R169). -/
theorem inv_giveResults {s : State} {ready : Bool} {err : Cause} {r : HostResult} (hs : Inv s)
    (delivered : ready = true → s.telegramValid = true ∧ err = .ok)
    (errors : err.isFeedResult = true ∧ (err ≠ .ok → s.state = .waitStart ∧ s.telegramValid = false)) :
    Inv (giveResults ready err r s) :=
  { hs with delivered, errors }

theorem inv_silentResults {s : State} (hs : Inv s) (r : HostResult) : Inv (giveResults false .ok r s) :=
  inv_giveResults hs (by simp) (by simp [Cause.isFeedResult])

/-- Every outcome of `feed` keeps the invariant. -/
theorem FeedStep.inv {b : Byte} {s t : State} (h : FeedStep b s t) (hs : Inv s) : Inv t := by
  have row := h.row hs
  cases h with
  | start => exact inv_of_row _ rfl (by simp) (row (by simp)) rfl rfl rfl hs.verdict
  | skip h => exact inv_silentResults hs .none
  | badSep82 h | badSep30 h =>
    have shut := telegramValid_of_reading hs h (by decide)
    exact inv_of_waiting rfl hs.capacity hs.bound shut rfl rfl hs.verdict
  | lengthUnderflow h => exact inv_lengthUnderflow hs h b
  | tagEnd h hp => exact inv_deliver (telegramComplete_of_last_tag_byte hs h hp b) hs.verdict
  | passage h => exact (row_of_inv hs h).elim
  | emptyTitle h | titleLength h | titleByte h | titleEnd h | goodSep82 h | lengthByte h | lengthEnd h | goodSep30 h
  | counterByte h | emptyPayload h | payloadSized h | payloadByte h | payloadEnd h | tagByte h =>
    have shut := telegramValid_of_reading hs h (by decide)
    exact inv_of_row _ rfl (by simp [h]) (row (by simp [h])) shut rfl rfl hs.verdict

/-! ### The other outcomes of a step -/

/-- `RESET` clears what the invariant speaks of, but for the Decryptor's outputs (R187, R188). -/
theorem inv_reset {s : State} (hs : Inv s) : Inv (enter .waitStart (clearTelegram (giveNothing s))) :=
  inv_of_waiting rfl (by simp [WithinCapacity]) (by simp [WithinBound]) rfl rfl rfl hs.verdict

/-- A failure holds no plaintext, a success has status `OK` (R124, R125). -/
theorem verdictHolds_decryptWith (d : Decryptor) (nonce c : Bytes) : VerdictHolds (decryptWith d nonce c) := by
  rcases decryptWith_cases d nonce c with ⟨_, e⟩ | ⟨_, _, e⟩ | ⟨_, _, _, e⟩ | ⟨_, _, _, e⟩ <;>
    simp [VerdictHolds, e]

/-- The Decryptor's outputs are bound by their verdict alone. -/
theorem inv_holdDecryption {s : State} {r : DecryptResult} (hs : Inv s) (hr : VerdictHolds r) :
    Inv (holdDecryption r s) :=
  { hs with verdict := hr }

/-- The invariant does not speak of the Decryptors. -/
theorem inv_addDecryptor {s : State} (d : Decryptor) (hs : Inv s) : Inv (addDecryptor d s) :=
  { hs with }

/-- The invariant does not speak of the waiting inputs. -/
theorem inv_withInputs {s : State} (rest : List Input) (hs : Inv s) : Inv (withInputs rest s) :=
  { hs with }

/-- A choice of `MODE` silences the results and touches nothing else the invariant speaks of. -/
theorem inv_setMode {s : State} (m : Sink) (hs : Inv s) : Inv (setMode m s) :=
  { inv_silentResults hs .none with }

/-- A frame result beside `ready` and `err` as `feed` reported them (log 22). -/
theorem inv_feed_with_result {s : State} (hs : Inv s) (b : Byte) (r : HostResult) :
    Inv (giveResults (feed b s).ready (feed b s).err r (feed b s)) :=
  have fed : Inv (feed b s) := (feedStep b s).inv hs
  inv_giveResults fed fed.delivered fed.errors

theorem HostStep.inv {s t : State} (h : HostStep s t) (hs : Inv s) : Inv t := by
  cases h with
  | reset => exact inv_reset hs
  | constructed d r => exact inv_addDecryptor d (inv_silentResults hs r)
  | returned r => exact inv_silentResults hs r
  | decrypted d nonce c r => exact inv_holdDecryption (inv_silentResults hs r) (verdictHolds_decryptWith d nonce c)
  | fed b => exact (feedStep b s).inv hs
  | fedForward b r => exact inv_feed_with_result hs b r
  | fedDecrypt b d nonce c r =>
    exact inv_holdDecryption (inv_feed_with_result hs b r) (verdictHolds_decryptWith d nonce c)

/-- Settles O31: each outcome of a step keeps the invariant; a byte by the outcomes of `feed`. -/
theorem stepKeepsInvariant : Obligations.StepKeepsInvariant := by
  unfold Obligations.StepKeepsInvariant
  intro s t hs h
  cases stepOutcome h with
  | passage hd => exact (row_of_inv hs hd).elim
  | waited => exact inv_silentResults hs .none
  | tookByte _ b rest => exact (feedStep b _).inv (inv_withInputs rest hs)
  | choseMode _ m rest => exact inv_setMode m (inv_withInputs rest hs)
  | hostCall _ rest hu => exact hu.inv (inv_withInputs rest hs)

end Sys2Proof.Proofs

namespace Sys2Proof.Proofs

/-! What the invariant says of the counted fields (O18, O30). -/

open Sys2Proof.Machine

/-- Settles O18: read off the outcomes of `feed`; under the invariant the count does not wrap. -/
theorem positionCountsFieldBytes : Obligations.PositionCountsFieldBytes := by
  unfold Obligations.PositionCountsFieldBytes
  intro s b hs
  have counted := pos_succ_toNat hs
  have h := feedStep b s
  generalize feed b s = t at h ⊢
  cases h with
  | start h hb => simp [h, hb]
  | skip h hb =>
    rw [h]
    exact (if_neg hb).symm
  | goodSep82 h | badSep82 h | goodSep30 h | badSep30 h | passage h => simp [h]
  | emptyTitle h | titleLength h | titleByte h | titleEnd h | lengthByte h | lengthEnd h | counterByte h
  | lengthUnderflow h | emptyPayload h | payloadSized h | payloadByte h | payloadEnd h | tagByte h | tagEnd h =>
    rw [h]
    exact counted

section FieldEnds

variable {s : State} (hs : Inv s) (b : Byte)
include hs

/-! A counted field ends on the byte that brings `pos` to `target` (R102). -/

theorem title_ends_iff (h : s.state = .readTitle) :
    (feed b s).state = .readSep82 ↔ s.pos.toNat + 1 = s.target.toNat := by
  rw [← pos_succ_eq_target_iff hs, feed_in_readTitle b h]
  by_cases hp : s.pos + 1 = s.target
  · simpa [rtAppendNext_last b hp] using hp
  · simpa [rtAppendNext_more b hp, h] using hp

theorem payloadLength_ends_iff (h : s.state = .readPayloadLength) :
    (feed b s).state = .readSep30 ↔ s.pos.toNat + 1 = s.target.toNat := by
  rw [← pos_succ_eq_target_iff hs, feed_in_readPayloadLength b h]
  by_cases hp : s.pos + 1 = s.target
  · simpa [rplShiftNext_last b hp] using hp
  · simpa [rplShiftNext_more b hp, h] using hp

theorem frameCounter_ends_iff (h : s.state = .readFrameCounter) :
    (feed b s).state ≠ .readFrameCounter ↔ s.pos.toNat + 1 = s.target.toNat := by
  rw [← pos_succ_eq_target_iff hs, feed_in_readFrameCounter b h]
  by_cases hp : s.pos + 1 = s.target
  · rw [rfcAppendNext_last b hp]
    rcases sizePayload_cases (appendCounter b (countByte (giveNothing s))) with ⟨_, e⟩ | ⟨_, e⟩ | ⟨_, e⟩ <;>
      simpa [e] using hp
  · simpa [rfcAppendNext_more b hp, h] using hp

theorem payload_ends_iff (h : s.state = .readPayload) :
    (feed b s).state = .readGcmTag ↔ s.pos.toNat + 1 = s.target.toNat := by
  rw [← pos_succ_eq_target_iff hs, feed_in_readPayload b h]
  by_cases hp : s.pos + 1 = s.target
  · simpa [rpAppendNext_last b hp] using hp
  · simpa [rpAppendNext_more b hp, h] using hp

theorem tag_ends_iff (h : s.state = .readGcmTag) :
    (feed b s).state = .waitStart ↔ s.pos.toNat + 1 = s.target.toNat := by
  rw [← pos_succ_eq_target_iff hs, feed_in_readGcmTag b h]
  by_cases hp : s.pos + 1 = s.target
  · rw [if_pos hp]
    simpa [doneNext] using hp
  · rw [if_neg hp]
    simpa [h] using hp

end FieldEnds

/-- The title length is one byte, of which 0 passes the title over (R80, R90). -/
theorem feed_state_in_readTitleLength {s : State} (b : Byte) (h : s.state = .readTitleLength) :
    (feed b s).state = if b.toNat = 0 then .readSep82 else .readTitle := by
  have b_zero_iff : b = 0 ↔ b.toNat = 0 := BitVec.toNat_inj.symm
  rw [feed_in_readTitleLength b h, rtlSetNext]
  simp only [b_zero_iff]
  split <;> rfl

/-- Settles O30: a field ends on the byte that brings `pos` to `target`; its row says how many of its bytes are then
in the buffer. -/
theorem fieldEndsAtItsSize : Obligations.FieldEndsAtItsSize := by
  unfold Obligations.FieldEndsAtItsSize
  intro s b hs
  refine ⟨feed_state_in_readTitleLength b, fun h => (payloadLength_ends_iff hs b h).trans ?_,
    fun h => (title_ends_iff hs b h).trans ?_, fun h => (frameCounter_ends_iff hs b h).trans ?_,
    fun h => (payload_ends_iff hs b h).trans ?_, fun h => (tag_ends_iff hs b h).trans ?_⟩
  all_goals
    have row := row_of_inv hs h
    simp only [layoutRow, holdsLengths] at row
    omega

end Sys2Proof.Proofs

namespace Sys2Proof.Proofs

/-! Byte sequences on wide ports (R50), the Telegram on the ports (O57), and the key that `KEYLOAD` builds (O43). -/

open Sys2Proof.Machine

/-! ### Bytes on a wide port -/

theorem packBytes_concat (w : Nat) (bs : Bytes) (b : Byte) :
    packBytes w (bs ++ [b]) = (packBytes w bs <<< 8) ||| b.setWidth w := by
  simp [packBytes]

/-- The byte shifted in last stands in the low 8 bits. -/
theorem extractLsb'_shiftIn_low {w : Nat} (hw : 8 ≤ w) (x : BitVec w) (b : Byte) :
    ((x <<< 8) ||| b.setWidth w).extractLsb' 0 8 = b := by
  ext i hi
  simp [hi, show i < w by omega]

/-- Shifting a byte in moves the earlier bytes up by one place. -/
theorem extractLsb'_shiftIn_high {w k : Nat} (hk : 8 * (k + 2) ≤ w) (x : BitVec w) (b : Byte) :
    ((x <<< 8) ||| b.setWidth w).extractLsb' (8 * (k + 1)) 8 = x.extractLsb' (8 * k) 8 := by
  ext i hi
  have above : ¬ 8 * (k + 1) + i < 8 := by omega
  have inside : 8 * (k + 1) + i < w := by omega
  have moved : 8 * (k + 1) + i - 8 = 8 * k + i := by omega
  simp [above, inside, moved, BitVec.getLsbD_of_ge b (8 * (k + 1) + i) (by omega),
    BitVec.getLsbD_eq_getElem (x := x) (i := 8 * k + i) (by omega)]

/-- Byte `i` of a sequence that fits on a port stands `i` bytes below the top of the sequence (R50). -/
theorem getElem?_packBytes {w : Nat} (bs : Bytes) (hw : 8 * bs.length ≤ w) {i : Nat} (hi : i < bs.length) :
    bs[i]? = some ((packBytes w bs).extractLsb' (8 * (bs.length - 1 - i)) 8) := by
  induction bs using List.reverseRecOn with
  | nil => simp at hi
  | append_singleton bs b ih =>
    rw [List.length_append, List.length_singleton] at hw hi
    rw [packBytes_concat, List.length_append, List.length_singleton, Nat.add_sub_cancel]
    by_cases hlast : i = bs.length
    · subst hlast
      rw [Nat.sub_self, Nat.mul_zero, extractLsb'_shiftIn_low (by omega)]
      simp
    · have place : bs.length - i = bs.length - 1 - i + 1 := by omega
      rw [place, extractLsb'_shiftIn_high (by omega), List.getElem?_append_left (by omega)]
      exact ih (by omega) (by omega)

/-- A read at an index inside a buffer. -/
theorem getElem?_eq_some_getD {bs : Bytes} {i : Nat} (hi : i < bs.length) (b : Byte) : bs[i]? = some (bs.getD i b) := by
  simp [hi]

/-- Settles O57: in the window the Telegram is complete, so each port shows its field. -/
theorem portsShowTheTelegram : Obligations.PortsShowTheTelegram := by
  unfold Obligations.PortsShowTheTelegram
  intro s cycle hs hv
  obtain ⟨-, -, -, -, -, hcounter, -, htag⟩ := hs.window hv
  obtain ⟨-, -, payload_le, -⟩ := hs.capacity
  refine ⟨if_pos hv, if_pos hv, ?payloadLen, fun idx hidx => ?title, fun idx hidx => ?payload, fun i hi => ?counter,
    fun i hi => ?tag⟩
  case payloadLen =>
    rw [payloadLenPort, if_pos hv, BitVec.toNat_ofNat]
    exact Nat.mod_eq_of_lt (payload_le.trans_lt (by decide))
  case title =>
    rw [titleRdData, if_pos ⟨hv, hidx⟩]
    exact getElem?_eq_some_getD hidx 0
  case payload =>
    rw [payloadRdData, if_pos ⟨hv, hidx⟩]
    exact getElem?_eq_some_getD hidx 0
  case counter =>
    rw [frameCounterPort, if_pos ⟨hv, hcounter⟩]
    simpa [hcounter] using getElem?_packBytes (w := 32) s.frameCounter (by omega) (hcounter ▸ hi)
  case tag =>
    rw [authTagPort, if_pos ⟨hv, htag⟩]
    simpa [htag] using getElem?_packBytes (w := 96) s.authTag (by omega) (htag ▸ hi)

/-! ### Hex text -/

/-- A hex digit stands for 0 to 15 (R119). -/
theorem hexValue_lt {c : Char} {v : Nat} (h : hexValue c = some v) : v < 16 := by
  unfold hexValue at h
  split_ifs at h <;> cases h <;> omega

/-- The number that the characters `2i` and `2i + 1` of a hex text stand for, the first the high nibble (R119). -/
def hexPair (cs : HexText) (i : Nat) : Option Nat :=
  (cs[2 * i]?.bind hexValue).bind fun hi => (cs[2 * i + 1]?.bind hexValue).map fun lo => 16 * hi + lo

theorem hexPair_zero {hi lo : Char} {h l : Nat} (hh : hexValue hi = some h) (hl : hexValue lo = some l)
    (rest : HexText) : hexPair (hi :: lo :: rest) 0 = some (16 * h + l) := by simp [hexPair, hh, hl]

theorem hexPair_succ (hi lo : Char) (rest : HexText) (i : Nat) :
    hexPair (hi :: lo :: rest) (i + 1) = hexPair rest i := rfl

theorem hexDecode_pair {hi lo : Char} {h l : Nat} {rest : HexText} {bs : Bytes} (hh : hexValue hi = some h)
    (hl : hexValue lo = some l) (hrest : hexDecode rest = some bs) :
    hexDecode (hi :: lo :: rest) = some (BitVec.ofNat 8 (16 * h + l) :: bs) := by simp [hexDecode, hh, hl, hrest]

/-- Whole pairs of hex digits decode, each pair to its byte (R119, R121). -/
theorem hexDecode_of_digits : ∀ cs : HexText, cs.length % 2 = 0 → (∀ c ∈ cs, isHexDigit c = true) →
    ∃ bs, hexDecode cs = some bs ∧ 2 * bs.length = cs.length ∧
      ∀ i, i < bs.length → bs[i]?.map BitVec.toNat = hexPair cs i
  | [], _, _ => ⟨[], rfl, rfl, by simp⟩
  | [_], even, _ => by simp at even
  | hi :: lo :: rest, even, digits => by
    obtain ⟨hhi, hlo, hrest⟩ : isHexDigit hi = true ∧ isHexDigit lo = true ∧ ∀ c ∈ rest, isHexDigit c = true := by
      simpa using digits
    obtain ⟨h, hh⟩ := Option.isSome_iff_exists.mp hhi
    obtain ⟨l, hl⟩ := Option.isSome_iff_exists.mp hlo
    obtain ⟨bs, decoded, length_eq, bytes_eq⟩ := hexDecode_of_digits rest (by simp at even; omega) hrest
    refine ⟨_, hexDecode_pair hh hl decoded, by simp; omega, fun i hi => ?_⟩
    cases i with
    | zero =>
      have h_lt := hexValue_lt hh
      have l_lt := hexValue_lt hl
      simp [hexPair_zero hh hl]
      omega
    | succ i => simpa [hexPair_succ] using bytes_eq i (by simpa using hi)

/-! ### The key -/

theorem keyOfText_of_digits {hex : HexText} {bs : Bytes} (hlen : hex.length = 32) (decoded : hexDecode hex = some bs) :
    keyOfText hex = .ok (blockOfBytes bs) := by simp [keyOfText, hlen, decoded]

/-- A `KEYLOAD` whose construction succeeds (R119). -/
theorem exec_keyload_of_construct {hex : HexText} {aad : AadOperand} {d : Decryptor} (s : State)
    (h : construct hex aad = .ok d) : exec (.keyload hex aad) s =
      .next (addDecryptor d (giveResults false .ok (.constructed s.decryptors.length) s)) := by
  rcases execKeyload_cases hex aad s with ⟨d', hd', e⟩ | ⟨c, hc, _⟩
  · obtain rfl : d = d' := by simpa [h] using hd'
    exact e
  · simp [h] at hc

/-- A `KEYLOAD` whose construction fails (R120). -/
theorem exec_keyload_of_failure {hex : HexText} {aad : AadOperand} {c : Cause} (s : State)
    (h : construct hex aad = .error c) :
    exec (.keyload hex aad) s = .next (giveResults false .ok (.constructionFailed c) s) := by
  rcases execKeyload_cases hex aad s with ⟨d, hd, _⟩ | ⟨c', hc, e⟩
  · simp [h] at hd
  · obtain rfl : c = c' := by simpa [h] using hc
    exact e

/-- Byte `i` of the key built from 16 bytes, on its port (R36, R128). -/
theorem keyPort_byte {bs : Bytes} (hlen : bs.length = 16) (aad : Bytes) {i : Nat} (hi : i < 16) :
    bs[i]? = some ((keyPort ⟨blockOfBytes bs, aad⟩).extractLsb' (8 * (15 - i)) 8) := by
  have packed := getElem?_packBytes (w := 128) bs (by omega) (hlen ▸ hi)
  rw [hlen] at packed
  exact packed

/-- Settles O43: 32 hex digits decode to 16 bytes, and a port packs bytes from the top. -/
theorem keyloadConstructsDecryptor : Obligations.KeyloadConstructsDecryptor := by
  unfold Obligations.KeyloadConstructsDecryptor
  intro s hex aad hlen digits
  obtain ⟨bs, decoded, length_eq, bytes_eq⟩ := hexDecode_of_digits hex (by omega) digits
  have bs_length : bs.length = 16 := by omega
  have built : construct hex (.bytes aad) = .ok ⟨blockOfBytes bs, aad⟩ := by
    simp [construct, keyOfText_of_digits hlen decoded, aadOf]
  refine ⟨_, ⟨blockOfBytes bs, aad⟩, exec_keyload_of_construct s built, rfl, rfl, rfl, rfl, rfl, rfl,
    fun cycle i hi => getElem?_eq_some_getD hi _, fun i hi => ?_⟩
  have key_byte := bytes_eq i (by omega)
  rw [keyPort_byte bs_length aad hi] at key_byte
  exact key_byte

end Sys2Proof.Proofs

namespace Sys2Proof.Proofs

/-! The Extractor and the Forwarder in their window (O38 to O41), and `RESET` (O1, O3). -/

open Sys2Proof.Machine

theorem exec_extract_of_open {s : State} (hv : s.telegramValid = true) :
    exec .extract s = .next (giveResults false .ok (extraction s) s) := if_pos hv

theorem exec_extract_of_shut {s : State} (hv : s.telegramValid = false) :
    exec .extract s = .refused .noTelegram := by simp [exec, execExtract, hv]

theorem exec_forward_of_open {s : State} (hv : s.telegramValid = true) :
    exec .forward s = .next (giveResults false .ok (forwarding s) s) := if_pos hv

theorem exec_forward_of_shut {s : State} (hv : s.telegramValid = false) :
    exec .forward s = .refused .noTelegram := by simp [exec, execForward, hv]

/-- An `EXTRACT` that answers a next state was run in the window. -/
theorem telegramValid_of_extract {s t : State} (h : exec .extract s = .next t) : s.telegramValid = true := by
  cases hv : s.telegramValid with
  | true => rfl
  | false => simp [exec_extract_of_shut hv] at h

/-- And so was a `FORWARD`. -/
theorem telegramValid_of_forward {s t : State} (h : exec .forward s = .next t) : s.telegramValid = true := by
  cases hv : s.telegramValid with
  | true => rfl
  | false => simp [exec_forward_of_shut hv] at h

/-- What an `EXTRACT` returned: the nonce and `cipherAndTag` of a complete Telegram (R32, R108). -/
theorem extracted_eq {s t : State} {nonce c : Bytes} (h : exec .extract s = .next t)
    (hr : t.result = .extracted nonce c) : nonce = nonceOf s ∧ c = cipherAndTagOf s := by
  rw [exec_extract_of_open (telegramValid_of_extract h)] at h
  cases h
  cases hr
  exact ⟨rfl, rfl⟩

/-- Settles O38. -/
theorem extractReturnsNonceAndCipher : Obligations.ExtractReturnsNonceAndCipher := by
  unfold Obligations.ExtractReturnsNonceAndCipher
  intro s
  exact ⟨fun hv => ⟨_, exec_extract_of_open hv, rfl, rfl, hv, rfl⟩, exec_extract_of_shut⟩

/-- Settles O39. -/
theorem forwardReturnsTriple : Obligations.ForwardReturnsTriple := by
  unfold Obligations.ForwardReturnsTriple
  intro s
  exact ⟨fun hv => ⟨_, exec_forward_of_open hv, rfl, rfl, hv, rfl⟩, exec_forward_of_shut⟩

/-- Settles O40: the lengths of a complete Telegram, of a title of at most 255 bytes and a declared length of 16
bits. -/
theorem extractedLengths : Obligations.ExtractedLengths := by
  unfold Obligations.ExtractedLengths
  intro s t nonce c hs h hr
  obtain ⟨rfl, rfl⟩ := extracted_eq h hr
  obtain ⟨-, overhead_le, -, -, htitle, hcounter, hpayload, htag⟩ := hs.window (telegramValid_of_extract h)
  have titleLen_lt : s.titleLen.toNat < 256 := s.titleLen.isLt
  have declaredLength_lt : s.declaredLength.toNat < 65536 := s.declaredLength.isLt
  simp only [nonceOf, cipherAndTagOf, List.length_append]
  omega

/-- The payload and the tag are what 12 bytes cut off the end of `cipherAndTag` (R108, R112). -/
theorem cipherAndTagOf_split {s : State} (htag : s.authTag.length = 12) :
    (cipherAndTagOf s).take ((cipherAndTagOf s).length - 12) = s.payload ∧
      (cipherAndTagOf s).drop ((cipherAndTagOf s).length - 12) = s.authTag := by
  simp [cipherAndTagOf, htag]

/-- Settles O41: both operations run in one window, and the tag of its Telegram is 12 bytes long. -/
theorem forwardIsSplitExtraction : Obligations.ForwardIsSplitExtraction := by
  unfold Obligations.ForwardIsSplitExtraction
  intro s t u nonce c hs h hr hu
  obtain ⟨rfl, rfl⟩ := extracted_eq h hr
  have hv := telegramValid_of_extract h
  obtain ⟨-, -, -, -, -, -, -, htag⟩ := hs.window hv
  obtain ⟨payload_eq, tag_eq⟩ := cipherAndTagOf_split htag
  rw [exec_forward_of_open hv] at hu
  cases hu
  rw [payload_eq, tag_eq]
  rfl

/-- Settles O1: the reset values of R42. -/
theorem resetGivesInitialAssembler : Obligations.ResetGivesInitialAssembler := by
  simp [Obligations.ResetGivesInitialAssembler, State.reset]

/-- `RESET` on what a `RESET` left (R187). -/
theorem exec_reset (s : State) : exec .reset s = .next (enter .waitStart (clearTelegram (giveNothing s))) := rfl

/-- Settles O3: `RESET` writes constants to the fields it touches, so a second one finds them there. -/
theorem resetReinitialisesAssembler : Obligations.ResetReinitialisesAssembler := by
  unfold Obligations.ResetReinitialisesAssembler
  intro s
  exact ⟨_, exec_reset s, rfl, rfl⟩

end Sys2Proof.Proofs

namespace Sys2Proof.Proofs

/-! The byte events and the configuration: no event reads `MODE` or a Decryptor (O56), and no instruction but the
Decryptor's reads a key or an AAD (O53). The idea: an operation commutes with replacing the configuration. -/

open Sys2Proof.Machine

/-- The same state under other Decryptors and another `MODE` (R36, R38). -/
def withConfiguration (ds : List Decryptor) (m : Sink) (s : State) : State := { s with decryptors := ds, mode := m }

/-- An operation that neither reads nor writes the configuration. -/
def IgnoresConfiguration (f : State → State) : Prop :=
  ∀ ds m s, f (withConfiguration ds m s) = withConfiguration ds m (f s)

/-- Such an operation leaves the configuration as it is. -/
theorem IgnoresConfiguration.keeps {f : State → State} (hf : IgnoresConfiguration f) (s : State) :
    (f s).decryptors = s.decryptors ∧ (f s).mode = s.mode := by
  have same : f s = withConfiguration s.decryptors s.mode (f s) := hf s.decryptors s.mode s
  have decryptors_eq := congrArg State.decryptors same
  have mode_eq := congrArg State.mode same
  exact ⟨decryptors_eq, mode_eq⟩

/-- A choice between two such operations, on a condition that does not read the configuration. -/
theorem IgnoresConfiguration.ite {f g : State → State} {c : State → Prop} [DecidablePred c]
    (hc : ∀ ds m s, c (withConfiguration ds m s) ↔ c s) (hf : IgnoresConfiguration f) (hg : IgnoresConfiguration g) :
    IgnoresConfiguration fun s => if c s then f s else g s := by
  intro ds m s
  simp only [hc]
  split
  · exact hf ds m s
  · exact hg ds m s

/-! ### The byte events -/

theorem ignoresConfiguration_wsStartNext : IgnoresConfiguration wsStartNext := fun _ _ _ => rfl
theorem ignoresConfiguration_wsSkipNext : IgnoresConfiguration wsSkipNext := fun _ _ _ => rfl
theorem ignoresConfiguration_s82OkNext : IgnoresConfiguration s82OkNext := fun _ _ _ => rfl
theorem ignoresConfiguration_s82BadNext : IgnoresConfiguration s82BadNext := fun _ _ _ => rfl
theorem ignoresConfiguration_s30OkNext : IgnoresConfiguration s30OkNext := fun _ _ _ => rfl
theorem ignoresConfiguration_s30BadNext : IgnoresConfiguration s30BadNext := fun _ _ _ => rfl
theorem ignoresConfiguration_doneNext : IgnoresConfiguration doneNext := fun _ _ _ => rfl

theorem ignoresConfiguration_rtlSetNext (b : Byte) : IgnoresConfiguration (rtlSetNext b) :=
  .ite (c := fun _ => b = 0) (fun _ _ _ => .rfl) (fun _ _ _ => rfl) (fun _ _ _ => rfl)

/-- A counting event compares `pos` with `target` and nothing else (R74). -/
theorem IgnoresConfiguration.counting {f g : State → State} (hf : IgnoresConfiguration f)
    (hg : IgnoresConfiguration g) : IgnoresConfiguration fun s => if s.pos + 1 = s.target then f s else g s :=
  .ite (c := fun s => s.pos + 1 = s.target) (fun _ _ _ => .rfl) hf hg

theorem ignoresConfiguration_rtAppendNext (b : Byte) : IgnoresConfiguration (rtAppendNext b) :=
  .counting (fun _ _ _ => rfl) (fun _ _ _ => rfl)

theorem ignoresConfiguration_rplShiftNext (b : Byte) : IgnoresConfiguration (rplShiftNext b) :=
  .counting (fun _ _ _ => rfl) (fun _ _ _ => rfl)

theorem ignoresConfiguration_rpAppendNext (b : Byte) : IgnoresConfiguration (rpAppendNext b) :=
  .counting (fun _ _ _ => rfl) (fun _ _ _ => rfl)

theorem ignoresConfiguration_rgtAppendNext (b : Byte) : IgnoresConfiguration (rgtAppendNext b) :=
  .counting (fun _ _ _ => rfl) (fun _ _ _ => rfl)

theorem ignoresConfiguration_sizePayload : IgnoresConfiguration sizePayload :=
  .ite (c := fun s => s.declaredLength.toNat < overhead) (fun _ _ _ => .rfl) (fun _ _ _ => rfl)
    (.ite (c := fun s => s.declaredLength.toNat = overhead) (fun _ _ _ => .rfl) (fun _ _ _ => rfl) (fun _ _ _ => rfl))

theorem ignoresConfiguration_rfcAppendNext (b : Byte) : IgnoresConfiguration (rfcAppendNext b) :=
  .counting (fun ds m s => ignoresConfiguration_sizePayload ds m (appendCounter b (countByte (giveNothing s))))
    (fun _ _ _ => rfl)

/-- Every byte event is a total operation that ignores the configuration. -/
theorem event_ignoresConfiguration {i : Instr} (hi : i.isEvent = true) :
    ∃ f, (∀ s, exec i s = .next (f s)) ∧ IgnoresConfiguration f := by
  cases i with
  | wsStart => exact ⟨_, fun _ => rfl, ignoresConfiguration_wsStartNext⟩
  | wsSkip b => exact ⟨_, fun _ => rfl, ignoresConfiguration_wsSkipNext⟩
  | rtlSet b => exact ⟨_, fun _ => rfl, ignoresConfiguration_rtlSetNext b⟩
  | rtAppend b => exact ⟨_, fun _ => rfl, ignoresConfiguration_rtAppendNext b⟩
  | s82Ok => exact ⟨_, fun _ => rfl, ignoresConfiguration_s82OkNext⟩
  | s82Bad b => exact ⟨_, fun _ => rfl, ignoresConfiguration_s82BadNext⟩
  | rplShift b => exact ⟨_, fun _ => rfl, ignoresConfiguration_rplShiftNext b⟩
  | s30Ok => exact ⟨_, fun _ => rfl, ignoresConfiguration_s30OkNext⟩
  | s30Bad b => exact ⟨_, fun _ => rfl, ignoresConfiguration_s30BadNext⟩
  | rfcAppend b => exact ⟨_, fun _ => rfl, ignoresConfiguration_rfcAppendNext b⟩
  | rpAppend b => exact ⟨_, fun _ => rfl, ignoresConfiguration_rpAppendNext b⟩
  | rgtAppend b => exact ⟨_, fun _ => rfl, ignoresConfiguration_rgtAppendNext b⟩
  | done => exact ⟨_, fun _ => rfl, ignoresConfiguration_doneNext⟩
  | reset | keyload | extract | forward | decrypt | pipelineStep => cases hi

/-- Settles O56: an event commutes with replacing the configuration, so it neither reads nor writes one. -/
theorem eventsIgnoreConfiguration : Obligations.EventsIgnoreConfiguration := by
  unfold Obligations.EventsIgnoreConfiguration
  intro i s ds m hi
  obtain ⟨f, exec_eq, ignores⟩ := event_ignoresConfiguration hi
  obtain ⟨decryptors_eq, mode_eq⟩ := ignores.keeps s
  exact ⟨f s, exec_eq s, decryptors_eq, mode_eq,
    (exec_eq _).trans (congrArg Host.Outcome.next (ignores ds m s))⟩

/-! ### The other instructions -/

theorem ignoresConfiguration_eventNext (b : Byte) : IgnoresConfiguration (eventNext b) := by
  intro ds m s
  have state_eq : (withConfiguration ds m s).state = s.state := rfl
  simp only [eventNext, state_eq]
  cases s.state with
  | waitStart =>
    exact IgnoresConfiguration.ite (c := fun _ => b = startMarker) (fun _ _ _ => .rfl)
      ignoresConfiguration_wsStartNext ignoresConfiguration_wsSkipNext ds m s
  | readTitleLength => exact ignoresConfiguration_rtlSetNext b ds m s
  | readTitle => exact ignoresConfiguration_rtAppendNext b ds m s
  | readSep82 =>
    exact IgnoresConfiguration.ite (c := fun _ => b = sep82) (fun _ _ _ => .rfl)
      ignoresConfiguration_s82OkNext ignoresConfiguration_s82BadNext ds m s
  | readPayloadLength => exact ignoresConfiguration_rplShiftNext b ds m s
  | readSep30 =>
    exact IgnoresConfiguration.ite (c := fun _ => b = sep30) (fun _ _ _ => .rfl)
      ignoresConfiguration_s30OkNext ignoresConfiguration_s30BadNext ds m s
  | readFrameCounter => exact ignoresConfiguration_rfcAppendNext b ds m s
  | readPayload => exact ignoresConfiguration_rpAppendNext b ds m s
  | readGcmTag => exact ignoresConfiguration_rgtAppendNext b ds m s
  | done => exact ignoresConfiguration_doneNext ds m s

theorem ignoresConfiguration_finishNext : IgnoresConfiguration finishNext :=
  .ite (c := fun s => s.state = .done) (fun _ _ _ => .rfl) ignoresConfiguration_doneNext (fun _ _ _ => rfl)

/-- `feed` ignores the configuration (R37, R38). -/
theorem ignoresConfiguration_feed (b : Byte) : IgnoresConfiguration (feed b) := fun ds m s => by
  rw [feed, ignoresConfiguration_eventNext, ignoresConfiguration_finishNext]
  rfl

/-- `PIPELINE_STEP` in Forward mode at a `ready`: `feed`, then the Forwarder (R114, R156). -/
def feedAndForward (b : Byte) (s : State) : State :=
  giveResults (feed b s).ready (feed b s).err (forwarding (feed b s)) (feed b s)

theorem ignoresConfiguration_feedAndForward (b : Byte) : IgnoresConfiguration (feedAndForward b) := fun ds m s => by
  rw [feedAndForward, ignoresConfiguration_feed]
  rfl

theorem exec_pipelineStep_of_not_ready {b : Byte} {s : State} (handle : Nat) (h : (feed b s).ready = false) :
    exec (.pipelineStep b handle) s = .next (feed b s) := by
  simp [exec, execPipelineStep, h]

theorem exec_pipelineStep_of_forward {b : Byte} {s : State} (handle : Nat) (h : (feed b s).ready = true)
    (hm : s.mode = .forward) : exec (.pipelineStep b handle) s = .next (feedAndForward b s) := by
  have mode_eq : (feed b s).mode = .forward := (feed_configuration b s).2.1.trans hm
  simp [exec, execPipelineStep, h, runSink, mode_eq, feedAndForward]

/-- The instruction answers `t` from `s`, and with other Decryptors it answers `t` with those, but for what it adds. -/
def SameUnderDecryptors (i : Instr) (ds : List Decryptor) (s t : State) : Prop :=
  ∃ new, t.decryptors = s.decryptors ++ new ∧
    exec i { s with decryptors := ds } = .next { t with decryptors := ds ++ new }

/-- An instruction that on both lists of Decryptors is one operation that ignores the configuration. -/
theorem sameUnderDecryptors_of_ignoresConfiguration {i : Instr} {ds : List Decryptor} {s : State}
    {f : State → State} (hf : IgnoresConfiguration f)
    (h : exec i { s with decryptors := ds } = .next (f { s with decryptors := ds })) :
    SameUnderDecryptors i ds s (f s) := by
  obtain ⟨decryptors_eq, mode_eq⟩ := hf.keeps s
  have commutes : f { s with decryptors := ds } = withConfiguration ds s.mode (f s) := hf ds s.mode s
  refine ⟨[], by simp [decryptors_eq], ?_⟩
  rw [h, commutes, ← mode_eq, List.append_nil]
  rfl

/-- `KEYLOAD` reads the number of the Decryptors, which names the next one, and nothing they hold (log 4). -/
theorem sameUnderDecryptors_keyload {hex : HexText} {aad : AadOperand} {ds : List Decryptor} {s t : State}
    (hlen : ds.length = s.decryptors.length) (h : exec (.keyload hex aad) s = .next t) :
    SameUnderDecryptors (.keyload hex aad) ds s t := by
  cases hc : construct hex aad with
  | ok d =>
    rw [exec_keyload_of_construct s hc] at h
    cases h
    exact ⟨[d], rfl, by rw [exec_keyload_of_construct _ hc, hlen]; rfl⟩
  | error c =>
    rw [exec_keyload_of_failure s hc] at h
    cases h
    exact sameUnderDecryptors_of_ignoresConfiguration (f := giveResults false .ok (.constructionFailed c))
      (fun _ _ _ => rfl) (exec_keyload_of_failure _ hc)

/-- `PIPELINE_STEP` that does not reach the Decryptor is `feed`, or `feed` and the Forwarder. -/
theorem sameUnderDecryptors_pipelineStep {b : Byte} {handle : Nat} {ds : List Decryptor} {s t : State}
    (unreached : (feed b s).ready = false ∨ s.mode = .forward) (h : exec (.pipelineStep b handle) s = .next t) :
    SameUnderDecryptors (.pipelineStep b handle) ds s t := by
  have commutes : feed b { s with decryptors := ds } = withConfiguration ds s.mode (feed b s) :=
    ignoresConfiguration_feed b ds s.mode s
  have ready_eq : (feed b { s with decryptors := ds }).ready = (feed b s).ready := by
    rw [commutes]
    rfl
  cases hr : (feed b s).ready with
  | false =>
    rw [exec_pipelineStep_of_not_ready handle hr] at h
    cases h
    exact sameUnderDecryptors_of_ignoresConfiguration (ignoresConfiguration_feed b)
      (exec_pipelineStep_of_not_ready handle (ready_eq.trans hr))
  | true =>
    have hm : s.mode = .forward := unreached.resolve_left (by simp [hr])
    rw [exec_pipelineStep_of_forward handle hr hm] at h
    cases h
    exact sameUnderDecryptors_of_ignoresConfiguration (ignoresConfiguration_feedAndForward b)
      (exec_pipelineStep_of_forward handle (ready_eq.trans hr) hm)

/-- `EXTRACT` and `FORWARD` read the window and the buffers (R113). -/
theorem sameUnderDecryptors_extract {ds : List Decryptor} {s t : State} (h : exec .extract s = .next t) :
    SameUnderDecryptors .extract ds s t := by
  have hv := telegramValid_of_extract h
  rw [exec_extract_of_open hv] at h
  cases h
  exact sameUnderDecryptors_of_ignoresConfiguration (f := fun s => giveResults false .ok (extraction s) s)
    (fun _ _ _ => rfl) (exec_extract_of_open hv)

theorem sameUnderDecryptors_forward {ds : List Decryptor} {s t : State} (h : exec .forward s = .next t) :
    SameUnderDecryptors .forward ds s t := by
  have hv := telegramValid_of_forward h
  rw [exec_forward_of_open hv] at h
  cases h
  exact sameUnderDecryptors_of_ignoresConfiguration (f := fun s => giveResults false .ok (forwarding s) s)
    (fun _ _ _ => rfl) (exec_forward_of_open hv)

theorem sameUnderDecryptors_reset {ds : List Decryptor} {s t : State} (h : exec .reset s = .next t) :
    SameUnderDecryptors .reset ds s t := by
  cases h
  exact sameUnderDecryptors_of_ignoresConfiguration
    (f := fun s => enter .waitStart (clearTelegram (giveNothing s))) (fun _ _ _ => rfl) rfl

theorem sameUnderDecryptors_event {i : Instr} (hi : i.isEvent = true) {ds : List Decryptor} {s t : State}
    (h : exec i s = .next t) : SameUnderDecryptors i ds s t := by
  obtain ⟨f, exec_eq, ignores⟩ := event_ignoresConfiguration hi
  rw [exec_eq] at h
  cases h
  exact sameUnderDecryptors_of_ignoresConfiguration ignores (exec_eq _)

/-- Settles O53: an event and each host operation but `DECRYPT` does the same under other Decryptors. -/
theorem keysReachOnlyTheDecryptor : Obligations.KeysReachOnlyTheDecryptor := by
  unfold Obligations.KeysReachOnlyTheDecryptor
  intro i s t ds unreached hlen h
  cases i with
  | reset => exact sameUnderDecryptors_reset h
  | keyload => exact sameUnderDecryptors_keyload hlen h
  | extract => exact sameUnderDecryptors_extract h
  | forward => exact sameUnderDecryptors_forward h
  | decrypt => exact unreached.elim
  | pipelineStep => exact sameUnderDecryptors_pipelineStep unreached h
  | _ => exact sameUnderDecryptors_event rfl h

end Sys2Proof.Proofs

namespace Sys2Proof.Proofs

/-! The byte events and the model's own fields (O17): an event returns nothing, takes no input by itself, and only
`WS.START` and `DONE` write the window. -/

open Sys2Proof.Machine

/-- Nothing is returned, no input is taken and the window is left as it was (logs 1 to 3). -/
def KeepsOwnFields (s t : State) : Prop :=
  t.result = .none ∧ t.inputs = s.inputs ∧ t.telegramValid = s.telegramValid

theorem keepsOwnFields_ite {c : Prop} [Decidable c] {s t u : State} (ht : KeepsOwnFields s t)
    (hu : KeepsOwnFields s u) : KeepsOwnFields s (if c then t else u) := by
  split
  · exact ht
  · exact hu

theorem keepsOwnFields_sizePayload {s t : State} (ht : KeepsOwnFields s t) : KeepsOwnFields s (sizePayload t) := by
  obtain ⟨result_eq, inputs_eq, window_eq⟩ := ht
  rcases sizePayload_cases t with ⟨_, e⟩ | ⟨_, e⟩ | ⟨_, e⟩ <;> rw [e]
  · exact ⟨rfl, inputs_eq, window_eq⟩
  · exact ⟨result_eq, inputs_eq, window_eq⟩
  · exact ⟨result_eq, inputs_eq, window_eq⟩

/-- Of the events only `WS.START` and `DONE` write the window. -/
theorem event_keepsOwnFields {i : Instr} (s : State) (hi : i.isEvent = true) (hstart : i ≠ .wsStart)
    (hdone : i ≠ .done) : ∃ t, exec i s = .next t ∧ KeepsOwnFields s t := by
  cases i with
  | wsStart => exact absurd rfl hstart
  | done => exact absurd rfl hdone
  | wsSkip | s82Ok | s82Bad | s30Ok | s30Bad => exact ⟨_, rfl, rfl, rfl, rfl⟩
  | rtlSet | rtAppend | rplShift | rpAppend | rgtAppend =>
    exact ⟨_, rfl, keepsOwnFields_ite ⟨rfl, rfl, rfl⟩ ⟨rfl, rfl, rfl⟩⟩
  | rfcAppend =>
    exact ⟨_, rfl, keepsOwnFields_ite (keepsOwnFields_sizePayload ⟨rfl, rfl, rfl⟩) ⟨rfl, rfl, rfl⟩⟩
  | reset | keyload | extract | forward | decrypt | pipelineStep => cases hi

/-- Settles O17: `WS.START` shuts the window, `DONE` opens it, and the other events leave it. -/
theorem eventsKeepOwnFields : Obligations.EventsKeepOwnFields := by
  unfold Obligations.EventsKeepOwnFields
  intro i s hi
  by_cases hstart : i = .wsStart
  · subst hstart
    exact ⟨wsStartNext s, rfl, rfl, rfl, rfl⟩
  by_cases hdone : i = .done
  · subst hdone
    exact ⟨doneNext s, rfl, rfl, rfl, rfl⟩
  · obtain ⟨t, exec_eq, result_eq, inputs_eq, window_eq⟩ := event_keepsOwnFields s hi hstart hdone
    exact ⟨t, exec_eq, result_eq, inputs_eq, by simp [hstart, hdone, window_eq]⟩

end Sys2Proof.Proofs

namespace Sys2Proof.Proofs

/-! A step that takes a byte (O26): every selector of a state has an event, so the decoder never rejects it. -/

open Sys2Proof.Machine

/-- Each state has a row of the opcode map that reads the state code alone (R72). -/
theorem exists_default_eventRow (st : ParserState) :
    ∃ row ∈ eventRows, row.mask = 0xF00 ∧ row.pattern = st.code ++ 0#8 := by
  cases st <;> decide

/-- A mask of `0xF00` leaves the state code of a selector. -/
theorem selector_and_codeMask (st : ParserState) (b : Byte) : selector st b &&& 0xF00 = st.code ++ 0#8 := by
  have mask_eq : (0xF00 : Selector) = BitVec.allOnes 4 ++ 0#8 := by decide
  rw [selector, mask_eq, BitVec.and_append, BitVec.and_allOnes, BitVec.and_zero]

/-- In every state each byte has an event (R46, R73). -/
theorem exists_decoded_event (st : ParserState) (b : Byte) : ∃ i, decode (selector st b) = .ok i := by
  obtain ⟨row, row_mem, mask_eq, pattern_eq⟩ := exists_default_eventRow st
  have row_matches : (selector st b &&& row.mask == row.pattern) = true := by
    rw [mask_eq, pattern_eq, selector_and_codeMask, beq_self_eq_true]
  have found : (eventRows.find? fun r => selector st b &&& r.mask == r.pattern).isSome :=
    List.find?_isSome.mpr ⟨row, row_mem, row_matches⟩
  obtain ⟨r, found_eq⟩ := Option.isSome_iff_exists.mp found
  exact ⟨r.build (selectorByte (selector st b)), by rw [decode, found_eq]⟩

/-- Outside `Done`, with a byte waiting, the step is `feed` of that byte (R87). -/
theorem step_eq_feed {s : State} {b : Byte} {rest : List Input} (hd : s.state ≠ .done)
    (hi : s.inputs = .byte b :: rest) : step s = .next (feed b (withInputs rest s)) := by
  obtain ⟨i, hdec⟩ := exists_decoded_event s.state b
  have fetch_eq : fetch s = .instr i rest := by rw [fetch_input hd hi, fetchInput, fetchEvent, hdec]
  have exec_eq : exec i (withInputs rest s) = .next (eventNext b (withInputs rest s)) := exec_decoded_event hdec
  rw [step, fetch_eq]
  exact congrArg completeInvocation exec_eq

/-- `feed` takes no further input (R46). -/
theorem feed_inputs (b : Byte) (s : State) : (feed b s).inputs = s.inputs := by
  obtain ⟨_, _, _, inputs_eq⟩ := feed_configuration b s
  exact inputs_eq

/-- Settles O26: the byte has an event, whose invocation is `feed`, which leaves the inputs alone. -/
theorem feedIsTotal : Obligations.FeedIsTotal := by
  unfold Obligations.FeedIsTotal
  intro s b rest hd hi
  exact ⟨step_eq_feed hd hi, feed_inputs b _⟩

end Sys2Proof.Proofs

namespace Sys2Proof.Proofs

/-! The checks of `DECRYPT` in their order, and its frame (O47). -/

open Sys2Proof.Machine

/-! Each check, reached when those before it have passed (R123, R175). -/

theorem decryptWith_of_short {c : Bytes} (d : Decryptor) (n : Bytes) (short : c.length < 12) :
    decryptWith d n c = ⟨[], false, .inputTooShort⟩ := if_pos short

theorem decryptWith_of_badNonce {n c : Bytes} (d : Decryptor) (long : 12 ≤ c.length) (badNonce : n.length ≠ 12) :
    decryptWith d n c = ⟨[], false, .nonceLength⟩ :=
  (if_neg long.not_gt).trans (if_pos badNonce)

theorem decryptWith_of_rejectedTag {d : Decryptor} {n c : Bytes} (long : 12 ≤ c.length) (nonce : n.length = 12)
    (rejected : gcmAd d.key n d.aad (cipherPart c) (tagPart c) = none) :
    decryptWith d n c = ⟨[], false, .authenticationError⟩ := by
  rw [decryptWith, if_neg long.not_gt, if_neg (not_not.mpr nonce), rejected]
  rfl

theorem decryptWith_of_acceptedTag {d : Decryptor} {n c p : Bytes} (long : 12 ≤ c.length) (nonce : n.length = 12)
    (accepted : gcmAd d.key n d.aad (cipherPart c) (tagPart c) = some p) : decryptWith d n c = ⟨p, true, .ok⟩ := by
  rw [decryptWith, if_neg long.not_gt, if_neg (not_not.mpr nonce), accepted]
  rfl

/-- `DECRYPT` under a handle that names a Decryptor, as one update of the state (R123, R128). -/
theorem exec_decrypt_eq {s : State} {h : Nat} {d : Decryptor} (n c : Bytes) (hd : s.decryptors[h]? = some d) :
    exec (.decrypt h n c) s =
      .next (holdDecryption (decryptWith d n c) (giveResults false .ok (.decrypted (decryptWith d n c)) s)) := by
  rcases execDecrypt_cases h n c s with ⟨d', hd', e⟩ | ⟨hd', _⟩
  · obtain rfl : d = d' := by simpa [hd] using hd'
    exact e
  · simp [hd] at hd'

/-- Settles O47: the update of `DECRYPT` gives the frame, and its result goes by the checks one after the other. -/
theorem decryptChecksInOrder : Obligations.DecryptChecksInOrder := by
  unfold Obligations.DecryptChecksInOrder
  intro s h n c
  refine ⟨fun d hd => ⟨_, decryptWith d n c, exec_decrypt_eq n c hd, by simp, by simp, by simp, by simp,
    ?short, ?badNonce, ?rejectedTag, ?acceptedTag⟩, ?missing⟩
  case short => exact decryptWith_of_short d n
  case badNonce => exact decryptWith_of_badNonce d
  case rejectedTag => exact decryptWith_of_rejectedTag
  case acceptedTag => exact fun long nonce _ accepted => decryptWith_of_acceptedTag long nonce accepted
  case missing => exact exec_decrypt_of_no_decryptor n c

end Sys2Proof.Proofs

namespace Sys2Proof.Proofs

/-! Several instances side by side (O60): a step of one part writes that part and reads no other (R63, R183). -/

open Sys2Proof.Machine

/-- A step of part `k` answers exactly when that part exists and its own step does; it writes that part alone. -/
theorem stepAt_eq_some_iff {y z : System} {k : Nat} :
    y.stepAt k = some z ↔ ∃ s t, y.parts[k]? = some s ∧ step s = .next t ∧ z = ⟨y.parts.set k t⟩ := by
  unfold System.stepAt
  constructor
  · intro h
    split at h
    · split at h
      · exact ⟨_, _, ‹_›, ‹_›, by simpa using h.symm⟩
      · cases h
      · cases h
    · cases h
  · rintro ⟨s, t, part_eq, step_eq, rfl⟩
    simp only [part_eq, step_eq]

theorem stepAt_length {y z : System} {i : Nat} (h : y.stepAt i = some z) : z.parts.length = y.parts.length := by
  obtain ⟨s, t, _, _, rfl⟩ := stepAt_eq_some_iff.mp h
  exact List.length_set

theorem stepAt_other_part {y z : System} {i j : Nat} (h : y.stepAt i = some z) (hj : j ≠ i) :
    z.parts[j]? = y.parts[j]? := by
  obtain ⟨s, t, _, _, rfl⟩ := stepAt_eq_some_iff.mp h
  exact List.getElem?_set_ne hj.symm

/-- Steps of two parts commute: each finds its part as it was, and writes to two places can be exchanged. -/
theorem stepAt_comm {y z w : System} {i j : Nat} (hi : y.stepAt i = some z) (hj : z.stepAt j = some w)
    (hne : j ≠ i) : ∃ z', y.stepAt j = some z' ∧ z'.stepAt i = some w := by
  have part_j : z.parts[j]? = y.parts[j]? := stepAt_other_part hi hne
  obtain ⟨s, t, part_s, step_s, rfl⟩ := stepAt_eq_some_iff.mp hi
  obtain ⟨u, v, part_u, step_u, rfl⟩ := stepAt_eq_some_iff.mp hj
  have step_j : y.stepAt j = some ⟨y.parts.set j v⟩ :=
    stepAt_eq_some_iff.mpr ⟨u, v, part_j ▸ part_u, step_u, rfl⟩
  have part_i : (y.parts.set j v)[i]? = some s := (stepAt_other_part step_j hne.symm).trans part_s
  have writes_commute : (y.parts.set i t).set j v = (y.parts.set j v).set i t := List.set_comm t v hne.symm
  exact ⟨_, step_j, stepAt_eq_some_iff.mpr ⟨s, t, part_i, step_s, congrArg System.mk writes_commute⟩⟩

/-- Settles O60: a step is a write to its own part, so the length, the other parts and their steps do not see it. -/
theorem instancesDoNotInterfere : Obligations.InstancesDoNotInterfere := by
  unfold Obligations.InstancesDoNotInterfere
  intro y z i h
  exact ⟨stepAt_length h, fun j hne => ⟨stepAt_other_part h hne, fun _ hj => stepAt_comm h hj hne⟩⟩

end Sys2Proof.Proofs

namespace Sys2Proof.Proofs

/-! The opcode map as a function of the state and the byte, and the round trips of decoder and encoder (O19 to O22). A
row of the map either names one state and one byte, or is the default of its state (R72, R73). -/

open Sys2Proof.Machine Sys2Proof.Laws

/-! ### The rows of the opcode map -/

/-- A full-mask row: one state, one byte (R72). -/
def byteRow (st : ParserState) (b : Byte) (i : Instr) : EventRow := ⟨selector st b, 0xFFF, fun _ => i⟩

/-- A state-only row: the state code, whatever the byte (R72). -/
def defaultRow (st : ParserState) (build : Byte → Instr) : EventRow := ⟨st.code ++ 0#8, 0xF00, build⟩

/-- The words of the opcode map, read as rows of these two kinds. -/
theorem eventRows_eq : eventRows =
    [ byteRow .waitStart 0xDB .wsStart, defaultRow .waitStart .wsSkip,
      defaultRow .readTitleLength .rtlSet, defaultRow .readTitle .rtAppend,
      byteRow .readSep82 0x82 .s82Ok, defaultRow .readSep82 .s82Bad,
      defaultRow .readPayloadLength .rplShift,
      byteRow .readSep30 0x30 .s30Ok, defaultRow .readSep30 .s30Bad,
      defaultRow .readFrameCounter .rfcAppend, defaultRow .readPayload .rpAppend,
      defaultRow .readGcmTag .rgtAppend, defaultRow .done fun _ => .done ] := rfl

theorem code_inj {st st' : ParserState} : st.code = st'.code ↔ st = st' := by
  refine ⟨fun h => ?_, congrArg _⟩
  have names_eq : ParserState.ofCode st.code = ParserState.ofCode st'.code := congrArg _ h
  simpa only [ofCode_code, Option.some.injEq] using names_eq

/-- Two selectors agree exactly when state and byte do (R71). -/
theorem selector_inj {st st' : ParserState} {b b' : Byte} : selector st b = selector st' b' ↔ st = st' ∧ b = b' := by
  refine ⟨fun h => ⟨code_inj.mp ?_, ?_⟩, fun ⟨hst, hb⟩ => hst ▸ hb ▸ rfl⟩
  · simpa only [selectorCode_selector] using congrArg selectorCode h
  · simpa only [selectorByte_selector] using congrArg selectorByte h

theorem byteRow_matches (st st' : ParserState) (b b' : Byte) (i : Instr) :
    (selector st b &&& (byteRow st' b' i).mask == (byteRow st' b' i).pattern) = decide (st = st' ∧ b = b') := by
  have full_mask : selector st b &&& 0xFFF = selector st b := BitVec.and_allOnes
  rw [byteRow, full_mask, beq_eq_decide, decide_eq_decide, selector_inj]

theorem defaultRow_matches (st st' : ParserState) (b : Byte) (build : Byte → Instr) :
    (selector st b &&& (defaultRow st' build).mask == (defaultRow st' build).pattern) = decide (st = st') := by
  have zero_byte : st.code ++ 0#8 = st'.code ++ 0#8 ↔ st = st' := by
    simpa only [selector, and_true] using selector_inj (st := st) (st' := st') (b := 0#8) (b' := 0#8)
  rw [defaultRow, selector_and_codeMask, beq_eq_decide, decide_eq_decide, zero_byte]

/-! ### The decoder -/

/-- The event that a state and a byte select (R72, R73). -/
def eventOf (st : ParserState) (b : Byte) : Instr :=
  match st with
  | .waitStart => if b = 0xDB then .wsStart else .wsSkip b
  | .readTitleLength => .rtlSet b
  | .readTitle => .rtAppend b
  | .readSep82 => if b = 0x82 then .s82Ok else .s82Bad b
  | .readPayloadLength => .rplShift b
  | .readSep30 => if b = 0x30 then .s30Ok else .s30Bad b
  | .readFrameCounter => .rfcAppend b
  | .readPayload => .rpAppend b
  | .readGcmTag => .rgtAppend b
  | .done => .done

/-- The first row that matches is the one of the byte where the state has one for it, and else its default. -/
theorem decode_selector (st : ParserState) (b : Byte) : decode (selector st b) = .ok (eventOf st b) := by
  rw [decode, eventRows_eq, selectorByte_selector]
  simp only [List.find?_cons, byteRow_matches, defaultRow_matches]
  cases st with
  | waitStart => by_cases hb : b = 0xDB#8 <;> simp [eventOf, hb, byteRow, defaultRow]
  | readSep82 => by_cases hb : b = 0x82#8 <;> simp [eventOf, hb, byteRow, defaultRow]
  | readSep30 => by_cases hb : b = 0x30#8 <;> simp [eventOf, hb, byteRow, defaultRow]
  | readTitleLength | readTitle | readPayloadLength | readFrameCounter | readPayload | readGcmTag | done =>
    simp [eventOf, defaultRow]

/-- A selector is its code and its byte (R71). -/
theorem code_append_byte (sel : Selector) : selectorCode sel ++ selectorByte sel = sel := by
  simpa only [selectorCode, selectorByte, BitVec.extractLsb'_eq_self] using
    BitVec.extractLsb'_append_extractLsb'_eq_extractLsb' (x := sel) (start₁ := 0) (len₁ := 8) (len₂ := 4) rfl

/-- The codes below 10 are those of the ten states (R75). -/
theorem exists_state_of_code {c : BitVec 4} (h : c.toNat < 10) : ∃ st : ParserState, st.code = c := by
  have named : ∀ c : BitVec 4, c.toNat < 10 → (ParserState.ofCode c).map ParserState.code = some c := by decide
  obtain ⟨st, -, code_eq⟩ := Option.map_eq_some_iff.mp (named c h)
  exact ⟨st, code_eq⟩

/-- A selector with a code below 10 is the selector of a state and a byte. -/
theorem exists_eq_selector {sel : Selector} (h : (selectorCode sel).toNat < 10) :
    ∃ st, sel = selector st (selectorByte sel) := by
  obtain ⟨st, code_eq⟩ := exists_state_of_code h
  exact ⟨st, by rw [selector, code_eq, code_append_byte]⟩

theorem selectorCode_and (x y : Selector) : selectorCode (x &&& y) = selectorCode x &&& selectorCode y :=
  BitVec.extractLsb'_and

/-- Every row reads the whole state code, and asks for one of the ten (R72, R76). -/
theorem eventRow_code : ∀ row ∈ eventRows, selectorCode row.mask = BitVec.allOnes 4 ∧
    (selectorCode row.pattern).toNat < 10 := by
  decide

/-- No row matches a reserved code (R76). -/
theorem decode_of_reserved {sel : Selector} (h : 10 ≤ (selectorCode sel).toNat) :
    decode sel = .error (.reservedState (selectorCode sel)) := by
  have no_match : eventRows.find? (fun r => sel &&& r.mask == r.pattern) = none := by
    rw [List.find?_eq_none]
    intro row hrow hmatch
    obtain ⟨mask_code, pattern_code⟩ := eventRow_code row hrow
    have code_eq : selectorCode sel = selectorCode row.pattern := by
      rw [← eq_of_beq hmatch, selectorCode_and, mask_code, BitVec.and_allOnes]
    rw [code_eq] at h
    omega
  rw [decode, no_match]

theorem eventOf_isEvent (st : ParserState) (b : Byte) : (eventOf st b).isEvent = true := by
  cases st with
  | waitStart | readSep82 | readSep30 =>
    simp only [eventOf]
    split <;> rfl
  | _ => rfl

/-- Settles O19: below 10 a selector is that of a state and a byte; from 10 on no row asks for its code. -/
theorem reservedCodesAreRejected : Obligations.ReservedCodesAreRejected := by
  unfold Obligations.ReservedCodesAreRejected
  intro sel
  refine ⟨decode_of_reserved, fun h => ?_⟩
  obtain ⟨st, sel_eq⟩ := exists_eq_selector h
  exact ⟨_, (congrArg decode sel_eq).trans (decode_selector st _), eventOf_isEvent st _⟩

/-! ### The round trips -/

/-- A well-formed event is encoded by the selector of a state and a byte that select it: for a default row of a state
with two rows, because the byte is not the one of the first (R73). -/
theorem exists_encode_eq_selector {i : Instr} (hwf : i.wf = true) (hi : i.isEvent = true) :
    ∃ st b, encode i = some (selector st b) ∧ eventOf st b = i := by
  cases i with
  | wsStart => exact ⟨.waitStart, 0xDB, rfl, rfl⟩
  | wsSkip b => exact ⟨.waitStart, b, rfl, if_neg (bne_iff_ne.mp hwf)⟩
  | rtlSet b => exact ⟨.readTitleLength, b, rfl, rfl⟩
  | rtAppend b => exact ⟨.readTitle, b, rfl, rfl⟩
  | s82Ok => exact ⟨.readSep82, 0x82, rfl, rfl⟩
  | s82Bad b => exact ⟨.readSep82, b, rfl, if_neg (bne_iff_ne.mp hwf)⟩
  | rplShift b => exact ⟨.readPayloadLength, b, rfl, rfl⟩
  | s30Ok => exact ⟨.readSep30, 0x30, rfl, rfl⟩
  | s30Bad b => exact ⟨.readSep30, b, rfl, if_neg (bne_iff_ne.mp hwf)⟩
  | rfcAppend b => exact ⟨.readFrameCounter, b, rfl, rfl⟩
  | rpAppend b => exact ⟨.readPayload, b, rfl, rfl⟩
  | rgtAppend b => exact ⟨.readGcmTag, b, rfl, rfl⟩
  | done => exact ⟨.done, 0, rfl, rfl⟩
  | reset | keyload | extract | forward | decrypt | pipelineStep => cases hi

/-- Settles O20: the selector of an event's state and byte decodes to what they select; host operations have none. -/
theorem decodeOfEncodeIsIdentity : Obligations.DecodeOfEncodeIsIdentity := by
  unfold Obligations.DecodeOfEncodeIsIdentity
  intro i hwf
  refine ⟨fun hi => ?_, fun hi => ?_⟩
  · obtain ⟨st, b, encode_eq, event_eq⟩ := exists_encode_eq_selector hwf hi
    exact ⟨selector st b, encode_eq, by rw [decode_selector, event_eq]⟩
  · exact Option.isNone_iff_eq_none.mp (Option.isSome_eq_false_iff.mp ((encode_isSome i).trans hi))

/-- What the decoder accepts is the selector of a state and a byte, read as the event that they select. -/
theorem eq_eventOf_of_decode {sel : Selector} {i : Instr} (h : decode sel = .ok i) :
    ∃ st b, sel = selector st b ∧ i = eventOf st b := by
  rcases Nat.lt_or_ge (selectorCode sel).toNat 10 with hcode | hcode
  · obtain ⟨st, sel_eq⟩ := exists_eq_selector hcode
    rw [sel_eq, decode_selector] at h
    exact ⟨st, selectorByte sel, sel_eq, (Except.ok.inj h).symm⟩
  · simp [decode_of_reserved hcode] at h

theorem eventOf_wf (st : ParserState) (b : Byte) : (eventOf st b).wf = true := by
  cases st with
  | waitStart | readSep82 | readSep30 =>
    simp only [eventOf]
    split
    · rfl
    · exact bne_iff_ne.mpr ‹_›
  | _ => rfl

/-- Encoding the event that a state and a byte select gives their selector back; `DONE` has lost its byte. -/
theorem encode_eventOf (st : ParserState) (b : Byte) :
    encode (eventOf st b) = some (if eventOf st b = .done then 0x900 else selector st b) := by
  cases st with
  | waitStart | readSep82 | readSep30 =>
    simp only [eventOf]
    split
    · simp [encode, *]
    · simp [encode]
  | done => rfl
  | readTitleLength | readTitle | readPayloadLength | readFrameCounter | readPayload | readGcmTag =>
    simp [eventOf, encode]

/-- Settles O21: what the decoder accepts is the event of a state and a byte. -/
theorem encodeOfDecodeIsIdentity : Obligations.EncodeOfDecodeIsIdentity := by
  unfold Obligations.EncodeOfDecodeIsIdentity
  intro sel i h
  obtain ⟨st, b, rfl, rfl⟩ := eq_eventOf_of_decode h
  exact ⟨eventOf_wf st b, eventOf_isEvent st b, encode_eventOf st b⟩

/-- Settles O22: each word is evaluated. -/
theorem tableWordsDecode : Obligations.TableWordsDecode := by
  unfold Obligations.TableWordsDecode
  decide

end Sys2Proof.Proofs

namespace Sys2Proof.Proofs

/-! Steps and runs: a byte and a host call each run their instruction (O23, O24), and the machine run over the bytes of
a stream is `feed` of them all, of which bytes before a start marker leave nothing (O36). -/

open Sys2Proof.Machine

/-! ### One step -/

/-- The end of an invocation is the `DONE` step if and only if it is due (R87). -/
theorem next_finishNext (t : State) :
    (.next (finishNext t) : Host.Outcome State Fault Refusal) = if t.state = .done then exec .done t else .next t := by
  unfold finishNext
  split <;> rfl

/-- In `Done`, which no run reaches, the step is `DONE` (log 9). -/
theorem step_of_done {s : State} (hd : s.state = .done) : step s = exec .done s := by
  rw [step, fetch_done hd]
  rfl

/-- Settles O23: the event of the byte is the one that `feed` runs, and `feed` ends with `DONE` if that is due. -/
theorem stepRunsDecodedEvent : Obligations.StepRunsDecodedEvent := by
  unfold Obligations.StepRunsDecodedEvent
  refine ⟨fun s b rest i hd hi hdec => ?_, fun s => step_of_done⟩
  have exec_eq : exec i (withInputs rest s) = .next (eventNext b (withInputs rest s)) := exec_decoded_event hdec
  exact ⟨_, exec_eq, (step_eq_feed hd hi).trans (next_finishNext _)⟩

/-- A host operation is no invocation of `feed` with a `DONE` to come (R87). -/
theorem completeInvocation_exec_host {i : Instr} {s : State} (hi : i.isEvent = false) (hd : s.state ≠ .done) :
    completeInvocation (exec i s) = exec i s := by
  cases he : exec i s with
  | next t => exact congrArg Host.Outcome.next (finishNext_of_ne_done ((hostStep_of_exec hi he).state_ne_done hd))
  | fault r => rfl
  | refused r => rfl

/-- An input that is fetched as a host operation is run as that operation, with the input gone (R83). -/
theorem step_of_hostCall {s : State} {input : Input} {rest : List Input} {i : Instr} (hd : s.state ≠ .done)
    (fetched : fetchInput s.state input rest = .instr i rest) (hi : i.isEvent = false)
    (inputs_eq : s.inputs = input :: rest) : step s = exec i { s with inputs := rest } := by
  rw [step, fetch_input hd inputs_eq, fetched]
  exact completeInvocation_exec_host hi hd

/-- Settles O24: each of the six inputs is fetched as its own instruction, and none of these is a byte event. -/
theorem stepRunsHostCall : Obligations.StepRunsHostCall := by
  unfold Obligations.StepRunsHostCall
  intro s rest hd
  exact ⟨step_of_hostCall hd rfl rfl, fun _ _ => step_of_hostCall hd rfl rfl, step_of_hostCall hd rfl rfl,
    step_of_hostCall hd rfl rfl, fun _ _ _ => step_of_hostCall hd rfl rfl, fun _ _ => step_of_hostCall hd rfl rfl⟩

/-! ### The machine run over bytes -/

theorem sizePayload_withInputs (rest : List Input) (s : State) :
    sizePayload (withInputs rest s) = withInputs rest (sizePayload s) := by
  simp only [sizePayload, apply_ite (withInputs rest)]
  rfl

/-- No event reads what waits after its byte: its effect is chosen by the byte and the registers (R72, R74). -/
theorem eventNext_withInputs (b : Byte) (rest : List Input) (s : State) :
    eventNext b (withInputs rest s) = withInputs rest (eventNext b s) := by
  simp only [eventNext, withInputs_state]
  cases s.state with
  | readFrameCounter =>
    have sized := sizePayload_withInputs rest (appendCounter b (countByte (giveNothing s)))
    simp only [rfcAppendNext, apply_ite (withInputs rest), ← sized]
    rfl
  | _ =>
    simp only [rtlSetNext, rtAppendNext, rplShiftNext, rpAppendNext, rgtAppendNext, apply_ite (withInputs rest)]
    rfl

/-- `feed` takes no further input and does not read what waits (R46). -/
theorem feed_withInputs (b : Byte) (rest : List Input) (s : State) :
    feed b (withInputs rest s) = withInputs rest (feed b s) := by
  rw [feed, eventNext_withInputs, feed]
  simp only [finishNext, apply_ite (withInputs rest)]
  rfl

theorem feedAll_cons (b : Byte) (bs : Bytes) (s : State) : feedAll (b :: bs) s = feedAll bs (feed b s) := rfl

theorem feedAll_withInputs (bs : Bytes) (rest : List Input) (s : State) :
    feedAll bs (withInputs rest s) = withInputs rest (feedAll bs s) := by
  induction bs generalizing s with
  | nil => rfl
  | cons b bs ih => rw [feedAll_cons, feed_withInputs, ih, feedAll_cons]

/-- One step and `n` more. -/
theorem run_succ {s t : State} (n : Nat) (h : step s = .next t) :
    Host.Core.run Sys2Proof.core (n + 1) s = Host.Core.run Sys2Proof.core n t := by
  simp only [Host.Core.run, Host.Check.core_step]
  rw [h]

/-- The bytes at the head of the inputs are fed one a step (R46, R104). -/
theorem run_bytes {s : State} {bs : Bytes} {rest : List Input} (hd : s.state ≠ .done)
    (hi : s.inputs = bs.map .byte ++ rest) :
    Host.Core.run Sys2Proof.core bs.length s = .next (withInputs rest (feedAll bs s)) := by
  induction bs generalizing s with
  | nil =>
    obtain rfl : s.inputs = rest := hi
    rfl
  | cons b bs ih =>
    have later := ih (feed_state_ne_done b _) (feed_inputs b (withInputs (bs.map .byte ++ rest) s))
    rw [feed_withInputs, feedAll_withInputs] at later
    exact (run_succ _ (step_eq_feed hd hi)).trans (feed_withInputs b _ s ▸ later)

/-- In `WaitStart` bytes without a start marker change nothing but the results (R78, R88). -/
theorem feedAll_of_no_marker {s : State} {bs : Bytes} (hs : s.state = .waitStart) (hne : bs ≠ [])
    (no_marker : ∀ x ∈ bs, x ≠ 0xDB) : feedAll bs s = giveNothing s := by
  induction bs generalizing s with
  | nil => exact absurd rfl hne
  | cons b bs ih =>
    obtain ⟨hb, hbs⟩ := List.forall_mem_cons.mp no_marker
    have skipped : feed b s = giveNothing s := (feed_in_waitStart b hs).trans (if_neg hb)
    rw [feedAll_cons, skipped]
    cases bs with
    | nil => rfl
    | cons c cs => exact ih (s := giveNothing s) hs (List.cons_ne_nil c cs) hbs

/-- Settles O36: the run is `feed` of the bytes, and none of them is a start marker. -/
theorem streamWithoutMarkerIsSkipped : Obligations.StreamWithoutMarkerIsSkipped := by
  unfold Obligations.StreamWithoutMarkerIsSkipped
  intro s bs rest hs hne no_marker hi
  have waiting : s.state ≠ .done := by simp [hs]
  refine ⟨withInputs rest (giveNothing s), ?_, rfl, rfl, rfl⟩
  rw [run_bytes waiting hi, feedAll_of_no_marker hs hne no_marker]

end Sys2Proof.Proofs

namespace Sys2Proof.Proofs

/-! What `GCM-AE` seals, `DECRYPT` opens: `GCTR` keeps the length and undoes itself, so the tag and the plaintext are
found again (R127, R146, R150, R151). -/

open Sys2Proof.Machine

/-- A block and what follows it are cut apart again, where the block is full or nothing follows. -/
theorem take_drop_append_block {a r : Bytes} (short : a.length ≤ 16) (full : a.length = 16 ∨ r = []) :
    (a ++ r).take 16 = a ∧ (a ++ r).drop 16 = r := by
  rcases full with full | rfl
  · exact ⟨List.take_left' full, List.drop_left' full⟩
  · rw [List.append_nil]
    exact ⟨List.take_of_length_le short, List.drop_eq_nil_of_le short⟩

/-- Enough blocks cover the byte string (R146). -/
theorem gctrFrom_length (K : Block) : ∀ (n : Nat) (cb : Block) (X : Bytes), X.length ≤ 16 * n →
    (gctrFrom K n cb X).length = X.length
  | 0, _, _, h => (Nat.le_zero.mp h).symm
  | n + 1, cb, X, h => by
    have rest_length := gctrFrom_length K n (inc32 cb) (X.drop 16) (by rw [List.length_drop]; omega)
    simp only [gctrFrom, List.length_append, xorBytes_length, blockBytes_length, List.length_take, List.length_drop,
      rest_length]
    omega

/-- The same key stream added twice gives the byte string back (R146). -/
theorem gctrFrom_gctrFrom (K : Block) : ∀ (n : Nat) (cb : Block) (X : Bytes), X.length ≤ 16 * n →
    gctrFrom K n cb (gctrFrom K n cb X) = X
  | 0, _, X, h => (List.length_eq_zero_iff.mp (Nat.le_zero.mp h)).symm
  | n + 1, cb, X, h => by
    have head_length : (xorBytes (X.take 16) (blockBytes (aes128Enc K cb))).length = min 16 X.length := by
      simp
    have full : (xorBytes (X.take 16) (blockBytes (aes128Enc K cb))).length = 16 ∨
        gctrFrom K n (inc32 cb) (X.drop 16) = [] := by
      rcases Nat.lt_or_ge X.length 16 with short | long
      · exact .inr (by rw [List.drop_eq_nil_of_le short.le, gctrFrom_nil])
      · exact .inl (head_length.trans (Nat.min_eq_left long))
    obtain ⟨head_eq, rest_eq⟩ := take_drop_append_block (head_length ▸ Nat.min_le_left ..) full
    rw [gctrFrom, gctrFrom, head_eq, rest_eq, xorBytes_xorBytes (by simp),
      gctrFrom_gctrFrom K n (inc32 cb) (X.drop 16) (by rw [List.length_drop]; omega), List.take_append_drop]

theorem gctr_length (K icb : Block) (X : Bytes) : (gctr K icb X).length = X.length :=
  gctrFrom_length K _ icb X (by omega)

theorem gctr_gctr (K icb : Block) (X : Bytes) : gctr K icb (gctr K icb X) = X := by
  rw [gctr, gctr_length]
  exact gctrFrom_gctrFrom K _ icb X (by omega)

theorem gcmTag_length (K : Block) (iv A C : Bytes) : (gcmTag K iv A C).length = 12 := by
  rw [gcmTag, List.length_take, gctr_length, blockBytes_length]
  rfl

theorem gcmAe_cipher_length (K : Block) (iv A P : Bytes) : (gcmAe K iv A P).1.length = P.length := gctr_length ..

theorem gcmAe_tag_length (K : Block) (iv A P : Bytes) : (gcmAe K iv A P).2.length = 12 := gcmTag_length ..

/-- What `GCM-AE` sealed, `GCM-AD` opens (R150, R151). -/
theorem gcmAd_gcmAe (K : Block) (iv A P : Bytes) :
    gcmAd K iv A (gcmAe K iv A P).1 (gcmAe K iv A P).2 = some P :=
  (if_pos rfl).trans (congrArg some (gctr_gctr K (inc32 (preCounter iv)) P))

/-- A tag of 12 bytes is cut off the end again (R122). -/
theorem cipherPart_append {C T : Bytes} (hT : T.length = 12) : cipherPart (C ++ T) = C :=
  List.take_left' (by rw [List.length_append, hT, Nat.add_sub_cancel])

theorem tagPart_append {C T : Bytes} (hT : T.length = 12) : tagPart (C ++ T) = T :=
  List.drop_left' (by rw [List.length_append, hT, Nat.add_sub_cancel])

/-- `DECRYPT` opens what was sealed with its key and AAD under a 12-byte nonce (R127). -/
theorem decryptWith_gcmAe (K : Block) (A P : Bytes) {iv : Bytes} (nonce : iv.length = 12) :
    decryptWith ⟨K, A⟩ iv ((gcmAe K iv A P).1 ++ (gcmAe K iv A P).2) = ⟨P, true, .ok⟩ := by
  have tag_length := gcmAe_tag_length K iv A P
  refine decryptWith_of_acceptedTag ?long nonce ?accepted
  case long =>
    rw [List.length_append, tag_length]
    exact Nat.le_add_left ..
  case accepted =>
    rw [cipherPart_append tag_length, tagPart_append tag_length]
    exact gcmAd_gcmAe K iv A P

end Sys2Proof.Proofs

namespace Sys2Proof.Proofs

/-! Rules for reading bytes without a result: `Reads` leads from one condition to another, `At` says what is held and
how many bytes the field still awaits, and a counted field is read by one induction (R74, R102). -/

open Sys2Proof.Machine

/-! ### Bytes taken with no result -/

theorem feedAll_append (as bs : Bytes) (s : State) : feedAll (as ++ bs) s = feedAll bs (feedAll as s) :=
  List.foldl_append

theorem feedResults_append (as bs : Bytes) (s : State) :
    feedResults (as ++ bs) s = feedResults as s ++ feedResults bs (feedAll as s) := by
  induction as generalizing s with
  | nil => rfl
  | cons a as ih => exact congrArg _ (ih (feed a s))

/-- Every invocation reports `ready` false and no error (R34). -/
def Silent (bs : Bytes) (s : State) : Prop := feedResults bs s = List.replicate bs.length (false, .ok)

theorem silent_append {as bs : Bytes} {s : State} (ha : Silent as s) (hb : Silent bs (feedAll as s)) :
    Silent (as ++ bs) s := by
  rw [Silent, feedResults_append, ha, hb, List.length_append, List.replicate_append_replicate]

theorem silent_cons {b : Byte} {bs : Bytes} {s : State} :
    Silent (b :: bs) s ↔ ((feed b s).ready = false ∧ (feed b s).err = .ok) ∧ Silent bs (feed b s) := by
  simp [Silent, feedResults, List.replicate_succ]

/-- From every state that meets `P` the bytes are taken with no result, and lead to a state that meets `Q`. -/
def Reads (bs : Bytes) (P Q : State → Prop) : Prop := ∀ s, P s → Silent bs s ∧ Q (feedAll bs s)

theorem Reads.nil (P : State → Prop) : Reads [] P P := fun _ h => ⟨rfl, h⟩

theorem Reads.append {as bs : Bytes} {P Q R : State → Prop} (ha : Reads as P Q) (hb : Reads bs Q R) :
    Reads (as ++ bs) P R := fun s hs => by
  obtain ⟨silent_as, reached⟩ := ha s hs
  obtain ⟨silent_bs, finished⟩ := hb _ reached
  exact ⟨silent_append silent_as silent_bs, feedAll_append as bs s ▸ finished⟩

/-- One byte, by the state that it leads to. -/
theorem Reads.byte {b : Byte} {P Q : State → Prop}
    (h : ∀ s, P s → ∃ t, feed b s = t ∧ t.ready = false ∧ t.err = .ok ∧ Q t) : Reads [b] P Q := fun s hs => by
  obtain ⟨t, rfl, silent, noError, reached⟩ := h s hs
  exact ⟨silent_cons.mpr ⟨⟨silent, noError⟩, rfl⟩, reached⟩

/-! ### What is held and what is awaited -/

/-- The fields of a Telegram (R20). -/
structure Contents where
  titleLen : BitVec 8
  declaredLength : BitVec 16
  title : Bytes
  counter : Bytes
  payload : Bytes
  tag : Bytes

/-- The Telegram that the registers and buffers of a state hold. -/
def contentsOf (s : State) : Contents :=
  ⟨s.titleLen, s.declaredLength, s.systemTitle, s.frameCounter, s.payload, s.authTag⟩

/-- In framing state `st`, with `left` bytes to come before the target (R29, R74), and `c` held. -/
structure At (st : ParserState) (left : Nat) (c : Contents) (s : State) : Prop where
  state_eq : s.state = st
  awaits : s.target = s.pos + BitVec.ofNat 17 left
  contents_eq : contentsOf s = c

/-- A counted byte reaches the target exactly if it is the last one awaited. -/
theorem At.last_iff {st : ParserState} {left : Nat} {c : Contents} {s : State} (h : At st (left + 1) c s)
    (small : left + 1 < 2 ^ 17) : s.pos + 1 = s.target ↔ left = 0 := by
  rw [h.awaits, add_right_inj, ← BitVec.toNat_inj, BitVec.toNat_ofNat, Nat.mod_eq_of_lt small]
  simp only [BitVec.ofNat_eq_ofNat, BitVec.toNat_ofNat]
  omega

/-- After a counted byte one byte less is awaited. -/
theorem At.count {st : ParserState} {left : Nat} {c c' : Contents} {s t : State} (h : At st (left + 1) c s)
    (state_eq : t.state = s.state) (pos_eq : t.pos = s.pos + 1) (target_eq : t.target = s.target)
    (contents_eq : contentsOf t = c') : At st left c' t where
  state_eq := state_eq.trans h.state_eq
  awaits := by
    rw [target_eq, h.awaits, pos_eq, Nat.add_comm left 1, BitVec.ofNat_add, ← BitVec.add_assoc]
    rfl
  contents_eq := contents_eq

/-- When all the bytes awaited are counted, what the target is moved on by is awaited next. -/
theorem At.finish {st st' : ParserState} {left n : Nat} {c c' : Contents} {s t : State} (h : At st left c s)
    (state_eq : t.state = st') (pos_eq : t.pos = s.pos + BitVec.ofNat 17 left)
    (target_eq : t.target = s.target + BitVec.ofNat 17 n) (contents_eq : contentsOf t = c') : At st' n c' t where
  state_eq := state_eq
  awaits := by rw [target_eq, pos_eq, h.awaits]
  contents_eq := contents_eq

/-! ### Counted fields -/

/-- A field whose bytes are counted and stored by `put`; `fill` is what is held after the bytes given (R74). -/
structure CountedField (st : ParserState) (put : Byte → State → State) (fill : Bytes → Contents) : Prop where
  more : ∀ (b : Byte) (s : State), s.state = st → s.pos + 1 ≠ s.target → feed b s = put b (countByte (giveNothing s))
  keeps : ∀ (b : Byte) (s : State), (put b s).state = s.state ∧ (put b s).pos = s.pos ∧
    (put b s).target = s.target ∧ (put b s).ready = s.ready ∧ (put b s).err = s.err
  fills : ∀ (b : Byte) (s : State) (xs : Bytes), contentsOf s = fill xs → contentsOf (put b s) = fill (xs ++ [b])

/-- The bytes of a field before its last one. -/
theorem CountedField.reads_more {st : ParserState} {put : Byte → State → State} {fill : Bytes → Contents}
    (field : CountedField st put fill) (k : Nat) (bs xs : Bytes) (small : bs.length + (k + 1) < 2 ^ 17) :
    Reads bs (At st (bs.length + (k + 1)) (fill xs)) (At st (k + 1) (fill (xs ++ bs))) := by
  induction bs generalizing xs with
  | nil => simpa using Reads.nil (At st (k + 1) (fill xs))
  | cons b bs ih =>
    rw [List.length_cons, Nat.add_right_comm] at small ⊢
    have head : Reads [b] (At st (bs.length + (k + 1) + 1) (fill xs))
        (At st (bs.length + (k + 1)) (fill (xs ++ [b]))) := by
      refine Reads.byte fun s hs => ⟨_, field.more b s hs.state_eq ?_, ?_⟩
      · exact fun reached => Nat.succ_ne_zero _ ((hs.last_iff small).mp reached)
      · obtain ⟨state_eq, pos_eq, target_eq, ready_eq, err_eq⟩ := field.keeps b (countByte (giveNothing s))
        exact ⟨ready_eq, err_eq, hs.count state_eq pos_eq target_eq
          (field.fills b (countByte (giveNothing s)) xs hs.contents_eq)⟩
    simpa using head.append (ih (xs ++ [b]) (by omega))

/-- The last byte of a field, after which `n` bytes are awaited in the next state. -/
theorem CountedField.reads_last {st st' : ParserState} {put : Byte → State → State} {fill : Bytes → Contents} {n : Nat}
    (field : CountedField st put fill)
    (ends : ∀ (b : Byte) (s : State) (xs : Bytes), s.state = st → contentsOf s = fill xs → s.pos + 1 = s.target →
      feed b s = enter st' (advanceTarget n (put b (countByte (giveNothing s))))) (xs : Bytes) (b : Byte) :
    Reads [b] (At st 1 (fill xs)) (At st' n (fill (xs ++ [b]))) := by
  refine Reads.byte fun s hs =>
    ⟨_, ends b s xs hs.state_eq hs.contents_eq ((hs.last_iff (by decide)).mpr rfl), ?_⟩
  obtain ⟨_, pos_eq, target_eq, ready_eq, err_eq⟩ := field.keeps b (countByte (giveNothing s))
  exact ⟨ready_eq, err_eq, hs.finish rfl pos_eq (congrArg (· + BitVec.ofNat 17 n) target_eq)
    (field.fills b (countByte (giveNothing s)) xs hs.contents_eq)⟩

/-- A field of `n` bytes is next, and is passed over if it is empty (R80). -/
def FieldNext (st : ParserState) (fill : Bytes → Contents) (next : Bytes → State → Prop) (n : Nat) (s : State) : Prop :=
  if n = 0 then next [] s else At st n (fill []) s

/-- A whole field, by what its last byte leads to. -/
theorem CountedField.reads {st : ParserState} {put : Byte → State → State} {fill : Bytes → Contents}
    (field : CountedField st put fill) {next : Bytes → State → Prop}
    (last : ∀ xs b, Reads [b] (At st 1 (fill xs)) (next (xs ++ [b]))) (bs : Bytes) (small : bs.length < 2 ^ 17) :
    Reads bs (FieldNext st fill next bs.length) (next bs) := by
  rcases List.eq_nil_or_concat' bs with rfl | ⟨init, b, rfl⟩
  · exact Reads.nil _
  · rw [List.length_append, List.length_singleton] at small ⊢
    have before : Reads init (At st (init.length + 1) (fill [])) (At st 1 (fill init)) :=
      field.reads_more 0 init [] small
    have nonempty : FieldNext st fill next (init.length + 1) = At st (init.length + 1) (fill []) :=
      funext fun s => if_neg (Nat.succ_ne_zero _)
    exact nonempty ▸ before.append (last init b)

end Sys2Proof.Proofs

namespace Sys2Proof.Proofs

/-! The frame theorem up to its last byte (R105): the counted fields of a frame, what stands before and between them,
and the whole frame. -/

open Sys2Proof.Machine

/-! ### The fields of a frame -/

theorem advanceTarget_zero (s : State) : advanceTarget 0 s = s := by simp [advanceTarget]

/-- What is held while the title is read, and after it. -/
def titleFill (N : Byte) (xs : Bytes) : Contents := ⟨N, 0, xs, [], [], []⟩

/-- What is held while the payload length is read: its bytes are shifted in (R94). -/
def lengthFill (N : Byte) (t xs : Bytes) : Contents := ⟨N, xs.foldl shiftInByte 0, t, [], [], []⟩

/-- What is held while the frame counter is read, and after it. -/
def counterFill (N : Byte) (L : BitVec 16) (t xs : Bytes) : Contents := ⟨N, L, t, xs, [], []⟩

/-- What is held while the payload is read, and after it. -/
def payloadFill (N : Byte) (L : BitVec 16) (t f xs : Bytes) : Contents := ⟨N, L, t, f, xs, []⟩

/-- What is held while the tag is read. -/
def tagFill (N : Byte) (L : BitVec 16) (t f p xs : Bytes) : Contents := ⟨N, L, t, f, p, xs⟩

theorem titleField (N : Byte) : CountedField .readTitle appendTitle (titleFill N) where
  more b _ hs hp := (feed_in_readTitle b hs).trans (rtAppendNext_more b hp)
  keeps _ _ := ⟨rfl, rfl, rfl, rfl, rfl⟩
  fills b _ _ h := congrArg (fun c => { c with title := c.title ++ [b] }) h

theorem lengthField (N : Byte) (t : Bytes) :
    CountedField .readPayloadLength (fun b s => setDeclaredLength (shiftInByte s.declaredLength b) s)
      (lengthFill N t) where
  more b _ hs hp := (feed_in_readPayloadLength b hs).trans (rplShiftNext_more b hp)
  keeps _ _ := ⟨rfl, rfl, rfl, rfl, rfl⟩
  fills b s xs h := by
    have shifted : (xs ++ [b]).foldl shiftInByte 0 = shiftInByte (xs.foldl shiftInByte 0) b := List.foldl_concat ..
    rw [lengthFill, shifted]
    exact congrArg (fun c => { c with declaredLength := shiftInByte c.declaredLength b }) h

theorem counterField (N : Byte) (L : BitVec 16) (t : Bytes) :
    CountedField .readFrameCounter appendCounter (counterFill N L t) where
  more b _ hs hp := (feed_in_readFrameCounter b hs).trans (rfcAppendNext_more b hp)
  keeps _ _ := ⟨rfl, rfl, rfl, rfl, rfl⟩
  fills b _ _ h := congrArg (fun c => { c with counter := c.counter ++ [b] }) h

theorem payloadField (N : Byte) (L : BitVec 16) (t f : Bytes) :
    CountedField .readPayload appendPayload (payloadFill N L t f) where
  more b _ hs hp := (feed_in_readPayload b hs).trans (rpAppendNext_more b hp)
  keeps _ _ := ⟨rfl, rfl, rfl, rfl, rfl⟩
  fills b _ _ h := congrArg (fun c => { c with payload := c.payload ++ [b] }) h

theorem tagField (N : Byte) (L : BitVec 16) (t f p : Bytes) :
    CountedField .readGcmTag appendTag (tagFill N L t f p) where
  more b _ hs hp := (feed_in_readGcmTag b hs).trans (if_neg hp)
  keeps _ _ := ⟨rfl, rfl, rfl, rfl, rfl⟩
  fills b _ _ h := congrArg (fun c => { c with tag := c.tag ++ [b] }) h

theorem reads_title_last (N : Byte) (xs : Bytes) (b : Byte) :
    Reads [b] (At .readTitle 1 (titleFill N xs)) (At .readSep82 0 (titleFill N (xs ++ [b]))) :=
  (titleField N).reads_last (fun b _ _ hs _ hp => by
    rw [feed_in_readTitle b hs, rtAppendNext_last b hp, advanceTarget_zero]) xs b

theorem reads_length_last (N : Byte) (t xs : Bytes) (b : Byte) :
    Reads [b] (At .readPayloadLength 1 (lengthFill N t xs)) (At .readSep30 0 (lengthFill N t (xs ++ [b]))) :=
  (lengthField N t).reads_last (fun b _ _ hs _ hp => by
    rw [feed_in_readPayloadLength b hs, rplShiftNext_last b hp, advanceTarget_zero]
    rfl) xs b

theorem reads_payload_last (N : Byte) (L : BitVec 16) (t f xs : Bytes) (b : Byte) :
    Reads [b] (At .readPayload 1 (payloadFill N L t f xs)) (At .readGcmTag 12 (payloadFill N L t f (xs ++ [b]))) :=
  (payloadField N L t f).reads_last
    (fun b _ _ hs _ hp => (feed_in_readPayload b hs).trans (rpAppendNext_last b hp)) xs b

/-- The payload is next, as long as the declared length makes it (R69). -/
def PayloadNext (N : Byte) (L : BitVec 16) (t f : Bytes) : State → Prop :=
  FieldNext .readPayload (payloadFill N L t f) (fun xs => At .readGcmTag 12 (payloadFill N L t f xs)) (L.toNat - 17)

/-- The last byte of the frame counter sizes the payload (R97): it is passed over for a declared length of 17 (R80). -/
theorem reads_counter_last (N : Byte) {L : BitVec 16} (sized : 17 ≤ L.toNat) (t xs : Bytes) (b : Byte) :
    Reads [b] (At .readFrameCounter 1 (counterFill N L t xs)) (PayloadNext N L t (xs ++ [b])) := by
  rcases Nat.eq_or_lt_of_le sized with exact_length | long
  · have passed_over : PayloadNext N L t (xs ++ [b]) = At .readGcmTag 12 (counterFill N L t (xs ++ [b])) :=
      funext fun s => if_pos (by omega)
    refine passed_over ▸ (counterField N L t).reads_last (fun b s xs hs held hp => ?_) xs b
    have declared : s.declaredLength = L := congrArg Contents.declaredLength held
    rw [feed_in_readFrameCounter b hs, rfcAppendNext_last b hp]
    exact (if_neg (declared ▸ sized.not_gt)).trans (if_pos (declared ▸ exact_length.symm))
  · have entered : PayloadNext N L t (xs ++ [b]) =
        At .readPayload (L.toNat - 17) (counterFill N L t (xs ++ [b])) := funext fun s => if_neg (by omega)
    refine entered ▸ (counterField N L t).reads_last (fun b s xs hs held hp => ?_) xs b
    have declared : s.declaredLength = L := congrArg Contents.declaredLength held
    rw [feed_in_readFrameCounter b hs, rfcAppendNext_last b hp]
    exact declared ▸ (if_neg (declared ▸ sized.not_gt)).trans (if_neg (declared ▸ long.ne'))

/-! ### The start of a frame and its separators -/

/-- The start marker clears the Telegram, whatever the registers and buffers hold (R89). -/
theorem reads_start : Reads [startMarker] (fun s => s.state = .waitStart)
    (fun s => s.state = .readTitleLength ∧ s.pos = 0 ∧ contentsOf s = titleFill 0 []) :=
  Reads.byte fun _ hs => ⟨_, (feed_in_waitStart startMarker hs).trans (if_pos rfl), rfl, rfl, rfl, rfl, rfl⟩

/-- The title length byte says how many bytes of title are next (R80, R90). -/
theorem reads_titleLength (N : Byte) :
    Reads [N] (fun s => s.state = .readTitleLength ∧ s.pos = 0 ∧ contentsOf s = titleFill 0 [])
      (FieldNext .readTitle (titleFill N) (fun xs => At .readSep82 0 (titleFill N xs)) N.toNat) := by
  refine Reads.byte fun s ⟨hs, hpos, held⟩ => ⟨_, feed_in_readTitleLength N hs, ?_⟩
  have awaits : titleTarget N = s.pos + 1 + BitVec.ofNat 17 N.toNat := by
    rw [hpos, titleTarget, BitVec.ofNat_add]
    rfl
  have contents_eq : ({ contentsOf s with titleLen := N } : Contents) = titleFill N [] :=
    congrArg (fun c => { c with titleLen := N }) held
  rw [rtlSetNext]
  rcases eq_or_ne N 0 with rfl | nonempty
  · exact ⟨rfl, rfl, (if_pos rfl).mpr ⟨rfl, awaits, contents_eq⟩⟩
  · rw [if_neg nonempty]
    exact ⟨rfl, rfl, (if_neg (mt BitVec.eq_of_toNat_eq nonempty)).mpr ⟨rfl, awaits, contents_eq⟩⟩

theorem reads_sep82 (N : Byte) (t : Bytes) :
    Reads [sep82] (At .readSep82 0 (titleFill N t)) (At .readPayloadLength 2 (lengthFill N t [])) :=
  Reads.byte fun _ hs => ⟨_, (feed_in_readSep82 sep82 hs.state_eq).trans (if_pos rfl), rfl, rfl,
    hs.finish rfl (BitVec.add_zero _).symm rfl hs.contents_eq⟩

theorem reads_sep30 (N : Byte) (t xs : Bytes) :
    Reads [sep30] (At .readSep30 0 (lengthFill N t xs))
      (At .readFrameCounter 4 (counterFill N (xs.foldl shiftInByte 0) t [])) :=
  Reads.byte fun _ hs => ⟨_, (feed_in_readSep30 sep30 hs.state_eq).trans (if_pos rfl), rfl, rfl,
    hs.finish rfl (BitVec.add_zero _).symm rfl hs.contents_eq⟩

/-! ### The frame -/

/-- Shifting a byte in is multiplying by 256 and adding it (R68, R94). -/
theorem shiftInByte_toNat (len : BitVec 16) (b : Byte) :
    (shiftInByte len b).toNat = (256 * len.toNat + b.toNat) % 65536 := by
  have apart : len <<< 8 &&& b.setWidth 16 = 0 := by
    ext i hi
    by_cases low : i < 8
    · simp [low]
    · simp [BitVec.getLsbD_of_ge b i (by omega)]
  rw [shiftInByte, ← BitVec.add_eq_or_of_and_eq_zero _ _ apart]
  simp [BitVec.toNat_shiftLeft, Nat.shiftLeft_eq]
  omega

/-- What the two bytes of a declared length leave in its register (R85, R94). -/
def declared (len : Nat) : BitVec 16 := [hiByte len, loByte len].foldl shiftInByte 0

theorem declared_toNat {len : Nat} (h : len < 65536) : (declared len).toNat = len := by
  simp only [declared, List.foldl_cons, List.foldl_nil, shiftInByte_toNat, hiByte, loByte, BitVec.toNat_ofNat,
    BitVec.ofNat_eq_ofNat]
  omega

/-- The header of a frame: its marker and its title (R105). -/
theorem reads_header {t : Bytes} (ht : t.length ≤ 255) :
    Reads ([startMarker, BitVec.ofNat 8 t.length] ++ t) (fun s => s.state = .waitStart)
      (At .readSep82 0 (titleFill (BitVec.ofNat 8 t.length) t)) := by
  have length_eq : (BitVec.ofNat 8 t.length).toNat = t.length := by
    rw [BitVec.toNat_ofNat]
    omega
  have start := reads_start.append (reads_titleLength (BitVec.ofNat 8 t.length))
  rw [length_eq] at start
  exact start.append ((titleField _).reads (reads_title_last _) t (by omega))

/-- The payload length with the separators about it (R105). -/
theorem reads_separators (N : Byte) (t : Bytes) (len : Nat) :
    Reads [sep82, hiByte len, loByte len, sep30] (At .readSep82 0 (titleFill N t))
      (At .readFrameCounter 4 (counterFill N (declared len) t [])) := by
  have length := (lengthField N t).reads (next := fun xs => At .readSep30 0 (lengthFill N t xs))
    (reads_length_last N t) [hiByte len, loByte len] (by simp)
  exact ((reads_sep82 N t).append length).append (reads_sep30 N t _)

/-- The frame counter and the payload that it sizes (R105). -/
theorem reads_counter_payload (N : Byte) {L : BitVec 16} (t : Bytes) {f p : Bytes} (hf : f.length = 4)
    (hL : L.toNat = p.length + 17) :
    Reads (f ++ p) (At .readFrameCounter 4 (counterFill N L t [])) (At .readGcmTag 12 (tagFill N L t f p [])) := by
  have L_lt : L.toNat < 65536 := L.isLt
  have counter := (counterField N L t).reads (reads_counter_last N (by omega) t) f (by omega)
  have payload := (payloadField N L t f).reads (next := fun xs => At .readGcmTag 12 (payloadFill N L t f xs))
    (reads_payload_last N L t f) p (by omega)
  rw [hf] at counter
  rw [PayloadNext, hL, Nat.add_sub_cancel] at counter
  exact counter.append payload

/-- What a frame leaves to be held (R105). -/
def frameFill (t f p g : Bytes) : Contents :=
  tagFill (BitVec.ofNat 8 t.length) (declared (p.length + 17)) t f p g

/-- A frame is taken with no result up to the last byte of its tag (R105). -/
theorem reads_frame {t f p g : Bytes} (ht : t.length ≤ 255) (hf : f.length = 4) (hp : p.length ≤ 65518)
    (hg : g.length = 11) :
    Reads (frameBytes t f p g) (fun s => s.state = .waitStart) (At .readGcmTag 1 (frameFill t f p g)) := by
  have tag := (tagField (BitVec.ofNat 8 t.length) (declared (p.length + 17)) t f p).reads_more 0 g [] (by omega)
  rw [hg] at tag
  have body := ((reads_header ht).append (reads_separators _ t (p.length + 17))).append
    (reads_counter_payload _ t hf (declared_toNat (by omega)))
  have whole := body.append tag
  rwa [← List.append_assoc, List.append_assoc _ p g] at whole

/-- The last byte of the tag delivers the frame (R99, R100, R105). -/
theorem feed_last_of_frame {t f p g : Bytes} {s : State} (h : At .readGcmTag 1 (frameFill t f p g) s) (x : Byte) :
    ∃ u, feed x s = deliver u ∧ contentsOf u = frameFill t f p (g ++ [x]) :=
  ⟨_, (feed_in_readGcmTag x h.state_eq).trans (if_pos ((h.last_iff (by decide)).mpr rfl)),
    (tagField ..).fills x (countByte (giveNothing s)) g h.contents_eq⟩

/-- A frame with a tag of one byte more. -/
theorem frameBytes_concat (t f p g : Bytes) (x : Byte) : frameBytes t f p (g ++ [x]) = frameBytes t f p g ++ [x] := by
  simp [frameBytes, frameWithLength]

end Sys2Proof.Proofs

namespace Sys2Proof.Proofs

/-! The whole block over a sealed frame (O55): the frame is taken with no output up to its last byte, at which the
Decryptor opens what was sealed (R105, R127, R156). -/

open Sys2Proof.Machine

/-- A byte with no result gives no output (R156). -/
theorem stepOutput_feed {b : Byte} {s : State} (noError : (feed b s).err = .ok) : stepOutput (feed b s) = none := by
  simp [stepOutput, noError, feed_result]

theorem runPipeline_cons {handle k : Nat} {b : Byte} {s t : State} (bs : Bytes)
    (h : execPipelineStep b handle s = .next t) :
    runPipeline handle k (b :: bs) s =
      ((stepOutput t).toList.map (fun o => (k, o)) ++ (runPipeline handle (k + 1) bs t).1,
        (runPipeline handle (k + 1) bs t).2) := by
  rw [runPipeline, h]

/-- A run goes over bytes with no result without an output, and goes on in the state they leave. -/
theorem runPipeline_append_of_silent (handle : Nat) {as : Bytes} {s : State} (silent : Silent as s) (k : Nat)
    (bs : Bytes) : runPipeline handle k (as ++ bs) s = runPipeline handle (k + as.length) bs (feedAll as s) := by
  induction as generalizing k s with
  | nil => rfl
  | cons a as ih =>
    obtain ⟨⟨not_ready, noError⟩, silent_rest⟩ := silent_cons.mp silent
    rw [List.cons_append, runPipeline_cons _ (exec_pipelineStep_of_not_ready handle not_ready),
      stepOutput_feed noError, ih silent_rest, List.length_cons, Nat.add_right_comm]
    rfl

/-- The Decrypt sink on the Telegram in the buffers (R114, R156). -/
def decryptTelegram (d : Decryptor) (s : State) : State :=
  holdDecryption (decryptWith d (nonceOf s) (cipherAndTagOf s))
    (giveResults s.ready s.err (.decrypted (decryptWith d (nonceOf s) (cipherAndTagOf s))) s)

/-- `PIPELINE_STEP` in Decrypt mode at a `ready`: `feed`, then the Decrypt sink (R156). -/
theorem exec_pipelineStep_of_decrypt {b : Byte} {handle : Nat} {s : State} {d : Decryptor}
    (ready : (feed b s).ready = true) (hm : s.mode = .decrypt) (hd : s.decryptors[handle]? = some d) :
    exec (.pipelineStep b handle) s = .next (decryptTelegram d (feed b s)) := by
  obtain ⟨decryptors_eq, mode_eq, -⟩ := feed_configuration b s
  simp [exec, execPipelineStep, ready, runSink, mode_eq, hm, decryptors_eq, hd, decryptTelegram]

/-- A Telegram just delivered gives one output, what the Decryptor makes of it (R108, R156). -/
theorem stepOutput_decryptTelegram_deliver (d : Decryptor) (s : State) :
    stepOutput (decryptTelegram d (deliver s)) =
      some (.frame (.decrypted (decryptWith d (s.systemTitle ++ s.frameCounter) (s.payload ++ s.authTag)))) := rfl

/-- Feeding changes neither the Decryptors nor `MODE` (R38, R113). -/
theorem feedAll_configuration (bs : Bytes) (s : State) :
    (feedAll bs s).decryptors = s.decryptors ∧ (feedAll bs s).mode = s.mode := by
  induction bs generalizing s with
  | nil => exact ⟨rfl, rfl⟩
  | cons b bs ih =>
    obtain ⟨decryptors_eq, mode_eq⟩ := ih (feed b s)
    obtain ⟨decryptors_eq', mode_eq', -⟩ := feed_configuration b s
    exact ⟨decryptors_eq.trans decryptors_eq', mode_eq.trans mode_eq'⟩

/-- A run over a frame in Decrypt mode gives one output, at its last byte: what the Decryptor makes of the frame. -/
theorem runPipeline_frame {s : State} {handle : Nat} {d : Decryptor} {t f p g : Bytes} (hs : s.state = .waitStart)
    (hm : s.mode = .decrypt) (hd : s.decryptors[handle]? = some d) (ht : t.length ≤ 255) (hf : f.length = 4)
    (hp : p.length ≤ 65518) (hg : g.length = 12) :
    ∃ u : State, runPipeline handle 0 (frameBytes t f p g) s =
        ([((frameBytes t f p g).length - 1, .frame (.decrypted (decryptWith d (t ++ f) (p ++ g))))], .next u) ∧
      u.state = .waitStart ∧ u.systemTitle = t ∧ u.frameCounter = f := by
  obtain ⟨init, x, rfl⟩ := (List.eq_nil_or_concat' g).resolve_left (by rintro rfl; cases hg)
  have init_length : init.length = 11 := by simpa using hg
  obtain ⟨silent, reached⟩ := reads_frame ht hf hp init_length s hs
  obtain ⟨v, feed_eq, held⟩ := feed_last_of_frame reached x
  obtain ⟨decryptors_eq, mode_eq⟩ := feedAll_configuration (frameBytes t f p init) s
  have step_eq : execPipelineStep x handle (feedAll (frameBytes t f p init) s) =
      .next (decryptTelegram d (deliver v)) :=
    feed_eq ▸ exec_pipelineStep_of_decrypt (feed_eq ▸ rfl) (mode_eq.trans hm) (decryptors_eq ▸ hd)
  have title_eq : v.systemTitle = t := congrArg Contents.title held
  have counter_eq : v.frameCounter = f := congrArg Contents.counter held
  have payload_eq : v.payload = p := congrArg Contents.payload held
  have tag_eq : v.authTag = init ++ [x] := congrArg Contents.tag held
  refine ⟨decryptTelegram d (deliver v), ?_, rfl, title_eq, counter_eq⟩
  rw [frameBytes_concat, runPipeline_append_of_silent handle silent, runPipeline_cons [] step_eq,
    stepOutput_decryptTelegram_deliver, title_eq, counter_eq, payload_eq, tag_eq, List.length_append, Nat.zero_add]
  rfl

/-- Settles O55: a sealed frame is a frame, and its Decryptor opens what it carries. -/
theorem sealedFrameComesOutAsPlaintext : Obligations.SealedFrameComesOutAsPlaintext := by
  unfold Obligations.SealedFrameComesOutAsPlaintext
  intro s h K A title fc P hs hm hd htitle hfc hP
  have opened := decryptWith_gcmAe K A P (iv := title ++ fc) (by rw [List.length_append, htitle, hfc])
  have run := runPipeline_frame hs hm hd (htitle.trans_le (by decide)) hfc
    ((gcmAe_cipher_length K (title ++ fc) A P).trans_le hP) (gcmAe_tag_length K (title ++ fc) A P)
  rwa [opened] at run

end Sys2Proof.Proofs

namespace Sys2Proof.Proofs

/-! A frame delivered on its last byte (O33), also after an aborted attempt and bytes that start none (O34), and byte
streams cut into chunks (O37). -/

open Sys2Proof.Machine

/-! ### A whole frame -/

theorem frameWf_iff {t f p g : Bytes} : frameWf t f p g = true ↔
    t.length ≤ 255 ∧ f.length = 4 ∧ p.length ≤ 65518 ∧ g.length = 12 := by
  simp [frameWf, and_assoc]

/-- The length of a frame (R105): 10 bytes about the title, the payload and the tag of 12. -/
theorem frameBytes_length {t f p g : Bytes} (hf : f.length = 4) (hg : g.length = 12) :
    (frameBytes t f p g).length = t.length + p.length + 22 := by
  simp only [frameBytes, frameWithLength, List.length_append, List.length_cons, List.length_nil, hf, hg]
  omega

/-- A valid frame has a last byte, before which nothing is reported and on which the frame is delivered (R105). -/
theorem frame_delivered_on_last_byte {t f p g : Bytes} (wf : frameWf t f p g = true) :
    ∃ before last, frameBytes t f p g = before ++ [last] ∧
      Reads before (fun s => s.state = .waitStart)
        (fun s => ∃ u, feed last s = deliver u ∧ contentsOf u = frameFill t f p g) := by
  obtain ⟨ht, hf, hp, hg⟩ := frameWf_iff.mp wf
  obtain ⟨tag, last, rfl⟩ := (List.eq_nil_or_concat' g).resolve_left (by rintro rfl; cases hg)
  have tag_length : tag.length = 11 := by simpa using hg
  refine ⟨frameBytes t f p tag, last, frameBytes_concat t f p tag last, fun s hs => ?_⟩
  obtain ⟨silent, reached⟩ := reads_frame ht hf hp tag_length s hs
  exact ⟨silent, feed_last_of_frame reached last⟩

/-- The Telegram that holds a frame's fields, register by register (R105). -/
theorem telegram_of_frameFill {t f p g : Bytes} {u : State} (wf : frameWf t f p g = true)
    (held : contentsOf u = frameFill t f p g) :
    u.titleLen.toNat = t.length ∧ u.systemTitle = t ∧ u.declaredLength.toNat = p.length + 17 ∧
      u.frameCounter = f ∧ u.payload = p ∧ u.authTag = g := by
  obtain ⟨ht, -, hp, -⟩ := frameWf_iff.mp wf
  have titleLen_eq : u.titleLen = BitVec.ofNat 8 t.length := congrArg Contents.titleLen held
  have declared_eq : u.declaredLength = declared (p.length + 17) := congrArg Contents.declaredLength held
  refine ⟨?_, congrArg Contents.title held, ?_, congrArg Contents.counter held, congrArg Contents.payload held,
    congrArg Contents.tag held⟩
  · rw [titleLen_eq, BitVec.toNat_ofNat]
    omega
  · rw [declared_eq, declared_toNat (by omega)]

/-- Among bytes taken with no result the state after each of them reports nothing. -/
theorem feedAll_reports_nothing {a : Byte} {as bs : Bytes} {s : State} (silent : Silent (a :: as ++ bs) s) :
    (feedAll (a :: as) s).ready = false ∧ (feedAll (a :: as) s).err = .ok := by
  obtain ⟨first, later⟩ := silent_cons.mp silent
  induction as generalizing a s with
  | nil => exact first
  | cons a' as ih =>
    obtain ⟨second, rest⟩ := silent_cons.mp later
    exact ih later second rest

/-- Settles O33: the run is `feed` of the bytes of the frame, which are silent up to the last one. -/
theorem frameIsDelivered : Obligations.FrameIsDelivered := by
  unfold Obligations.FrameIsDelivered
  intro s t f p g rest hs wf hi
  obtain ⟨-, hf, -, hg⟩ := frameWf_iff.mp wf
  have waiting : s.state ≠ .done := by simp [hs]
  obtain ⟨before, last, frame_eq, reads⟩ := frame_delivered_on_last_byte wf
  obtain ⟨silent, u, feed_eq, held⟩ := reads s hs
  refine ⟨frameBytes_length hf hg, fun k hk => ?earlier, ?last⟩
  case earlier =>
    rw [frame_eq, List.length_append, List.length_singleton, Nat.add_lt_add_iff_right] at hk
    obtain ⟨as, bs, as_length, split_eq⟩ : ∃ as bs : Bytes, as.length = k + 1 ∧ before = as ++ bs :=
      ⟨before.take (k + 1), before.drop (k + 1), List.length_take_of_le hk, (List.take_append_drop _ _).symm⟩
    have inputs_eq : s.inputs = as.map .byte ++ ((bs ++ [last]).map .byte ++ rest) := by
      rw [hi, frame_eq, split_eq, List.append_assoc, List.map_append, List.append_assoc]
    obtain ⟨a, as, rfl⟩ := List.exists_cons_of_length_eq_add_one as_length
    have stopped := run_bytes waiting inputs_eq
    rw [as_length] at stopped
    exact ⟨_, stopped, feedAll_reports_nothing (split_eq ▸ silent)⟩
  case last =>
    have delivered : feedAll (frameBytes t f p g) s = deliver u := by
      rw [frame_eq, feedAll_append]
      exact feed_eq
    refine ⟨_, run_bytes waiting hi, ?_⟩
    rw [delivered]
    obtain ⟨titleLen, title, declaredLength, counter, payload, tag⟩ := telegram_of_frameFill wf held
    exact ⟨rfl, rfl, rfl, titleLen, title, declaredLength, counter, payload, tag, rfl⟩

/-! ### A frame after an aborted attempt -/

/-- A framing error leaves the machine waiting, with no `ready` (R169). -/
theorem FeedStep.waits_after_error {b : Byte} {s t : State} (h : FeedStep b s t) (error : t.err ≠ .ok) :
    t.state = .waitStart ∧ t.ready = false := by
  cases h with
  | badSep82 | badSep30 | lengthUnderflow => exact ⟨rfl, rfl⟩
  | _ => simp at error

/-- Bytes that are no start marker are skipped in `WaitStart` (R78, R88). -/
theorem reads_no_marker {bs : Bytes} (no_marker : ∀ x ∈ bs, x ≠ 0xDB) :
    Reads bs (fun s => s.state = .waitStart) (fun s => s.state = .waitStart) := by
  induction bs with
  | nil => exact Reads.nil _
  | cons b bs ih =>
    obtain ⟨hb, hbs⟩ := List.forall_mem_cons.mp no_marker
    have skipped : Reads [b] (fun s => s.state = .waitStart) (fun s => s.state = .waitStart) :=
      Reads.byte fun s hs => ⟨giveNothing s, (feed_in_waitStart b hs).trans (if_neg hb), rfl, rfl, hs⟩
    exact skipped.append (ih hbs)

/-- The `ready` results of bytes taken with no result and one byte more. -/
theorem ready_results_of_silent {as : Bytes} {s : State} (silent : Silent as s) (b : Byte) :
    (feedResults (as ++ [b]) s).map Prod.fst =
      List.replicate as.length false ++ [(feed b (feedAll as s)).ready] := by
  rw [feedResults_append, silent, List.map_append, List.map_replicate]
  rfl

/-- Settles O34: after the error the machine waits, skips the filler, and its next frame clears what was held. -/
theorem abortedFrameLeavesNoTrace : Obligations.AbortedFrameLeavesNoTrace := by
  unfold Obligations.AbortedFrameLeavesNoTrace
  intro s b junk t f p g _ error no_marker wf
  obtain ⟨waiting, not_ready⟩ := (feedStep b s).waits_after_error error
  obtain ⟨before, last, frame_eq, reads⟩ := frame_delivered_on_last_byte wf
  obtain ⟨silent, u, feed_eq, held⟩ := (reads_no_marker no_marker).append reads (feed b s) waiting
  have bytes_eq : b :: junk ++ frameBytes t f p g = b :: (junk ++ before ++ [last]) := by
    rw [frame_eq, List.cons_append, List.append_assoc]
  have delivered : feedAll (b :: junk ++ frameBytes t f p g) s = deliver u := by
    rw [bytes_eq, feedAll_cons, feedAll_append]
    exact feed_eq
  refine ⟨?results, ?telegram⟩
  case results =>
    have later := ready_results_of_silent silent last
    rw [feed_eq] at later
    rw [bytes_eq, feedResults, List.map_cons, later, not_ready, frame_eq]
    simp [← Nat.add_assoc, List.replicate_succ]
  case telegram =>
    rw [delivered]
    exact ⟨rfl, telegram_of_frameFill (u := deliver u) wf held⟩

/-! ### Chunks -/

theorem feedAll_state_ne_done {s : State} (bs : Bytes) (hd : s.state ≠ .done) : (feedAll bs s).state ≠ .done := by
  induction bs generalizing s with
  | nil => exact hd
  | cons b bs ih => exact ih (feed_state_ne_done b s)

/-- A chunk placed at the inputs is fed whole, and nothing waits after it (R104). -/
theorem run_chunk {s : State} (bs : Bytes) (hd : s.state ≠ .done) :
    Host.Core.run Sys2Proof.core bs.length (withInputs (bs.map .byte) s) = .next (withInputs [] (feedAll bs s)) := by
  have fed := run_bytes (s := withInputs (bs.map .byte) s) (rest := []) hd (List.append_nil _).symm
  rw [feedAll_withInputs] at fed
  exact fed

/-- Settles O37: a chunk is `feed` of its bytes, and feeding goes on where the chunk before it ended. -/
theorem chunkBoundariesDoNotMatter : Obligations.ChunkBoundariesDoNotMatter := by
  unfold Obligations.ChunkBoundariesDoNotMatter
  intro s a b hd
  have second : Host.Core.run Sys2Proof.core b.length (withInputs (b.map .byte) (feedAll a s)) =
      Host.Core.run Sys2Proof.core (a ++ b).length (withInputs ((a ++ b).map .byte) s) := by
    rw [run_chunk b (feedAll_state_ne_done a hd), run_chunk (a ++ b) hd, feedAll_append]
  exact ⟨withInputs [] (feedAll a s), run_chunk a hd, rfl, second⟩

end Sys2Proof.Proofs

namespace Sys2Proof.Proofs

/-! The thirteen byte events one by one (O4 to O16): what selects each, by `decode_selector`, and what it writes of the
spec's fields. -/

open Sys2Proof.Machine

/-! ### Branches of an event -/

/-- An event that enters a state only on the byte that ends a field writes nothing else by it (R74). -/
theorem specOf_enter_if (c : Prop) [Decidable c] (st : ParserState) (s : State) :
    specOf (if c then enter st s else s) = { specOf s with state := if c then st else s.state } := by
  split <;> rfl

/-- An event that enters one of two states writes nothing else by the choice. -/
theorem specOf_enter_either (c : Prop) [Decidable c] (st st' : ParserState) (s : State) :
    specOf (if c then enter st s else enter st' s) = { specOf s with state := if c then st else st' } := by
  split <;> rfl

/-- The err port shows the low two bits of the cause's code (R164). -/
theorem errPort_of_err {s : State} {c : Cause} (h : s.err = c) : errPort s = c.code.extractLsb' 0 2 := by
  rw [errPort, h]

/-! ### Sizing the payload -/

/-- What sizing the payload writes: an error, or a later target and the state of the next field (R97). -/
theorem specOf_sizePayload (s : State) :
    specOf (sizePayload s) =
      if s.declaredLength.toNat < 17 then
        { specOf s with state := .waitStart, ready := false, err := .lengthUnderflow }
      else if s.declaredLength.toNat = 17 then { specOf s with target := s.target + 12, state := .readGcmTag }
      else { specOf s with target := s.target + (s.declaredLength.setWidth 17 - 17), state := .readPayload } := by
  rcases sizePayload_cases s with ⟨hL, e⟩ | ⟨hL, e⟩ | ⟨hL, e⟩
  · rw [e, if_pos hL]
    rfl
  · rw [e, if_neg hL.not_lt, if_pos hL]
    rfl
  · have payload_length : BitVec.ofNat 17 (s.declaredLength.toNat - 17) = s.declaredLength.setWidth 17 - 17 := by
      rw [← BitVec.ofNat_toNat]
      exact (BitVec.ofNat_sub_ofNat_of_le s.declaredLength.toNat 17 (by decide) hL.le).symm
    rw [e, if_neg hL.not_gt, if_neg hL.ne', ← payload_length]
    rfl

/-- Sizing the payload raises its own error or none (R97, R169). -/
theorem err_sizePayload (s : State) :
    (sizePayload s).err = if s.declaredLength.toNat < 17 then .lengthUnderflow else s.err := by
  rcases sizePayload_cases s with ⟨hL, e⟩ | ⟨hL, e⟩ | ⟨hL, e⟩
  · rw [e, if_pos hL, raiseFramingError_err]
  · rw [e, if_neg hL.not_lt, enter_err, advanceTarget_err]
  · rw [e, if_neg hL.not_gt, enter_err, advanceTarget_err]

/-- The error of `RFC.APPEND` comes with the byte that reaches the target (R97). -/
theorem err_rfcAppendNext (b : Byte) (s : State) :
    (rfcAppendNext b s).err =
      if s.pos + 1 = s.target ∧ s.declaredLength.toNat < 17 then .lengthUnderflow else .ok := by
  by_cases hp : s.pos + 1 = s.target
  · rw [rfcAppendNext_last b hp, err_sizePayload]
    exact if_congr (and_iff_right hp).symm rfl rfl
  · rw [rfcAppendNext_more b hp, if_neg (mt And.left hp)]
    rfl

/-- Settles O13: the fourth counter byte sizes the payload, an earlier one is only counted and stored. -/
theorem counterByteIsAppendedAndSizesPayload : Obligations.CounterByteIsAppendedAndSizesPayload := by
  unfold Obligations.CounterByteIsAppendedAndSizesPayload
  refine ⟨decode_selector .readFrameCounter, fun b s => ⟨rfcAppendNext b s, rfl, ?port, ?fields⟩⟩
  case port =>
    rw [errPort_of_err (err_rfcAppendNext b s)]
    split <;> rfl
  case fields =>
    by_cases hp : s.pos + 1 = s.target
    · rw [rfcAppendNext_last b hp, specOf_sizePayload]
      exact (if_pos hp).symm
    · rw [rfcAppendNext_more b hp]
      exact (if_neg hp).symm

/-! ### The start of a frame -/

/-- No buffer loses a byte (R31). -/
def BuffersGrow (s t : State) : Prop :=
  s.systemTitle <+: t.systemTitle ∧ s.frameCounter <+: t.frameCounter ∧ s.payload <+: t.payload ∧
    s.authTag <+: t.authTag

theorem buffersGrow_of_same {s t : State} (title : t.systemTitle = s.systemTitle)
    (counter : t.frameCounter = s.frameCounter) (payload : t.payload = s.payload) (tag : t.authTag = s.authTag) :
    BuffersGrow s t := by
  simp [BuffersGrow, title, counter, payload, tag]

theorem buffersGrow_ite {c : Prop} [Decidable c] {s t u : State} (ht : BuffersGrow s t) (hu : BuffersGrow s u) :
    BuffersGrow s (if c then t else u) := by
  split
  · exact ht
  · exact hu

/-- Sizing the payload writes no buffer (R97). -/
theorem buffersGrow_sizePayload {s t : State} (h : BuffersGrow s t) : BuffersGrow s (sizePayload t) := by
  rcases sizePayload_cases t with ⟨_, e⟩ | ⟨_, e⟩ | ⟨_, e⟩ <;> rw [e] <;> exact h

/-- Of the events only `WS.START` takes bytes out of a buffer (R31). -/
theorem event_buffersGrow {i : Instr} (s : State) (hi : i.isEvent = true) (hstart : i ≠ .wsStart) :
    ∃ t, exec i s = .next t ∧ BuffersGrow s t := by
  cases i with
  | wsStart => exact absurd rfl hstart
  | wsSkip | s82Ok | s82Bad | s30Ok | s30Bad | done => exact ⟨_, rfl, buffersGrow_of_same rfl rfl rfl rfl⟩
  | rtlSet | rplShift =>
    exact ⟨_, rfl, buffersGrow_ite (buffersGrow_of_same rfl rfl rfl rfl) (buffersGrow_of_same rfl rfl rfl rfl)⟩
  | rtAppend b =>
    have grown : BuffersGrow s (appendTitle b (countByte (giveNothing s))) := by simp [BuffersGrow]
    exact ⟨_, rfl, buffersGrow_ite grown grown⟩
  | rfcAppend b =>
    have grown : BuffersGrow s (appendCounter b (countByte (giveNothing s))) := by simp [BuffersGrow]
    exact ⟨_, rfl, buffersGrow_ite (buffersGrow_sizePayload grown) grown⟩
  | rpAppend b =>
    have grown : BuffersGrow s (appendPayload b (countByte (giveNothing s))) := by simp [BuffersGrow]
    exact ⟨_, rfl, buffersGrow_ite grown grown⟩
  | rgtAppend b =>
    have grown : BuffersGrow s (appendTag b (countByte (giveNothing s))) := by simp [BuffersGrow]
    exact ⟨_, rfl, buffersGrow_ite grown grown⟩
  | reset | keyload | extract | forward | decrypt | pipelineStep => cases hi

/-- Settles O4: `WS.START` writes constants, and the other events at most append a byte. -/
theorem startMarkerClearsTelegram : Obligations.StartMarkerClearsTelegram := by
  unfold Obligations.StartMarkerClearsTelegram
  exact ⟨decode_selector .waitStart 0xDB, fun s => ⟨wsStartNext s, rfl, rfl⟩, fun _ s => event_buffersGrow s⟩

/-- Settles O5: `WS.SKIP` writes the results alone. -/
theorem skippedByteChangesNothing : Obligations.SkippedByteChangesNothing := by
  unfold Obligations.SkippedByteChangesNothing
  exact ⟨fun b hb => (decode_selector .waitStart b).trans (congrArg _ (if_neg hb)),
    fun _ s => ⟨wsSkipNext s, rfl, rfl⟩⟩

theorem titleTarget_eq (b : Byte) : titleTarget b = 1 + b.setWidth 17 := by
  rw [titleTarget, BitVec.ofNat_add, BitVec.ofNat_toNat]
  rfl

/-- Settles O6: the title length byte chooses the state that it enters, and nothing else by it. -/
theorem titleLengthSetsTarget : Obligations.TitleLengthSetsTarget := by
  unfold Obligations.TitleLengthSetsTarget
  refine ⟨decode_selector .readTitleLength, fun b s => ⟨rtlSetNext b s, rfl, ?_⟩⟩
  rw [← titleTarget_eq]
  exact specOf_enter_either ..

/-- Settles O7: the byte is counted and stored, and the title ends at the target. -/
theorem titleByteIsAppended : Obligations.TitleByteIsAppended := by
  unfold Obligations.TitleByteIsAppended
  exact ⟨decode_selector .readTitle, fun b s => ⟨rtAppendNext b s, rfl, specOf_enter_if ..⟩⟩

/-! ### The separators and the payload length -/

/-- Settles O8: the first separator moves the target by the two length bytes. -/
theorem firstSeparatorIsAccepted : Obligations.FirstSeparatorIsAccepted := by
  unfold Obligations.FirstSeparatorIsAccepted
  exact ⟨decode_selector .readSep82 0x82, fun s => ⟨s82OkNext s, rfl, rfl⟩⟩

/-- Settles O9: the entry of the framing errors writes `state` and the results. -/
theorem wrongFirstSeparatorAborts : Obligations.WrongFirstSeparatorAborts := by
  unfold Obligations.WrongFirstSeparatorAborts
  exact ⟨fun b hb => (decode_selector .readSep82 b).trans (congrArg _ (if_neg hb)),
    fun _ s => ⟨s82BadNext s, rfl, rfl, errPort_of_err (raiseFramingError_err .badSep82 s)⟩⟩

/-- The length register as the number of its bytes, in its 16 bits (R68, R94). -/
theorem shiftInByte_eq (len : BitVec 16) (b : Byte) :
    shiftInByte len b = BitVec.ofNat 16 (256 * len.toNat + b.toNat) :=
  BitVec.eq_of_toNat_eq ((shiftInByte_toNat len b).trans (BitVec.toNat_ofNat _ 16).symm)

/-- Settles O10: the byte is counted and shifted in, and the length ends at the target. -/
theorem lengthByteIsShiftedIn : Obligations.LengthByteIsShiftedIn := by
  unfold Obligations.LengthByteIsShiftedIn
  refine ⟨decode_selector .readPayloadLength, fun b s => ⟨rplShiftNext b s, rfl, ?_⟩⟩
  rw [← shiftInByte_eq]
  exact specOf_enter_if ..

/-- Settles O11: the second separator moves the target by the four counter bytes. -/
theorem secondSeparatorIsAccepted : Obligations.SecondSeparatorIsAccepted := by
  unfold Obligations.SecondSeparatorIsAccepted
  exact ⟨decode_selector .readSep30 0x30, fun s => ⟨s30OkNext s, rfl, rfl⟩⟩

/-- Settles O12: as for the first separator, with the second's cause. -/
theorem wrongSecondSeparatorAborts : Obligations.WrongSecondSeparatorAborts := by
  unfold Obligations.WrongSecondSeparatorAborts
  exact ⟨fun b hb => (decode_selector .readSep30 b).trans (congrArg _ (if_neg hb)),
    fun _ s => ⟨s30BadNext s, rfl, rfl, errPort_of_err (raiseFramingError_err .badSep30 s)⟩⟩

/-! ### The payload, the tag and the delivery -/

/-- Settles O14: the payload byte at the target moves it by the 12 tag bytes. -/
theorem payloadByteIsAppended : Obligations.PayloadByteIsAppended := by
  unfold Obligations.PayloadByteIsAppended
  exact ⟨decode_selector .readPayload, fun b s => ⟨rpAppendNext b s, rfl, apply_ite specOf ..⟩⟩

/-- Settles O15: `feed` of a tag byte is the event, and the passage through `Done` at the target. -/
theorem tagByteIsAppended : Obligations.TagByteIsAppended := by
  unfold Obligations.TagByteIsAppended
  refine ⟨decode_selector .readGcmTag, fun b s => ⟨rgtAppendNext b s, rfl, specOf_enter_if ..⟩, fun b s hs => ?_⟩
  rw [feed_in_readGcmTag b hs]
  by_cases hp : s.pos + 1 = s.target
  · rw [if_pos hp]
    exact ⟨(decide_eq_true hp).symm, rfl⟩
  · rw [if_neg hp]
    exact ⟨(decide_eq_false hp).symm, rfl⟩

/-- No byte taken in `WaitStart` makes the invocation ready (R88, R89). -/
theorem feed_ready_in_waitStart {s : State} (b : Byte) (hs : s.state = .waitStart) : (feed b s).ready = false := by
  rw [feed_in_waitStart b hs]
  split <;> rfl

/-- Settles O16: `DONE` writes `state` and the results, and leaves the machine waiting for a start marker. -/
theorem doneDeliversTheFrame : Obligations.DoneDeliversTheFrame := by
  unfold Obligations.DoneDeliversTheFrame
  refine ⟨decode_selector .done, fun s =>
    ⟨deliver s, rfl, rfl, fun b => feed_ready_in_waitStart b (deliver_state s), ?_⟩⟩
  rw [feed_in_waitStart 0xDB (deliver_state s), if_pos rfl]
  rfl

end Sys2Proof.Proofs

namespace Sys2Proof.Proofs

/-! `PIPELINE_STEP` as `feed` and the sink that `MODE` selects (O54). -/

open Sys2Proof.Machine

/-- `PIPELINE_STEP` in Decrypt mode at a `ready`, under a handle that names no Decryptor (R120, R156). -/
theorem exec_pipelineStep_of_no_decryptor {b : Byte} {handle : Nat} {s : State} (ready : (feed b s).ready = true)
    (hm : s.mode = .decrypt) (hd : s.decryptors[handle]? = none) :
    exec (.pipelineStep b handle) s = .refused .noDecryptor := by
  obtain ⟨decryptors_eq, mode_eq, -⟩ := feed_configuration b s
  simp [exec, execPipelineStep, ready, runSink, mode_eq, hm, decryptors_eq, hd]

/-- The Forwarder writes the host result and no field the spec gives: `ready` and `err` stay those of `feed` (R113). -/
theorem specOf_feedAndForward (b : Byte) (s : State) : specOf (feedAndForward b s) = specOf (feed b s) := rfl

/-- The Decrypt sink writes the outputs of the Decryptor and no other field the spec gives (R113, R128). -/
theorem specOf_decryptTelegram (d : Decryptor) (s : State) :
    specOf (decryptTelegram d s) =
      { specOf s with lastDecrypt := decryptWith d (s.systemTitle ++ s.frameCounter) (s.payload ++ s.authTag) } := rfl

/-- Settles O54: each case is the update that its sink makes of `feed`. -/
theorem pipelineStepRunsTheSink : Obligations.PipelineStepRunsTheSink := by
  unfold Obligations.PipelineStepRunsTheSink
  intro s b h
  refine ⟨?silent, ?forwarded, ?decrypted, ?missing⟩
  case silent => exact exec_pipelineStep_of_not_ready h
  case forwarded =>
    intro ready hm
    exact ⟨feedAndForward b s, exec_pipelineStep_of_forward h ready hm, rfl, specOf_feedAndForward b s, rfl,
      feed_inputs b s⟩
  case decrypted =>
    intro ready hm d hd
    exact ⟨decryptTelegram d (feed b s), exec_pipelineStep_of_decrypt ready hm hd,
      ⟨rfl, specOf_decryptTelegram d (feed b s)⟩, rfl, feed_inputs b s⟩
  case missing => exact exec_pipelineStep_of_no_decryptor

end Sys2Proof.Proofs

namespace Sys2Proof.Proofs

/-! Hex text (O42) and what `KEYLOAD` makes of it: a text decodes exactly when it is whole pairs of hex digits, so a
key text and an AAD text either give their bytes or fail the construction (O44, O45). -/

open Sys2Proof.Machine

/-! ### The hex alphabet -/

/-- A hex digit by the code of its character (R119). -/
theorem hexValue_eq_some_iff {c : Char} {v : Nat} : hexValue c = some v ↔
    v < 16 ∧ (c.toNat = (if v < 10 then 0x30 + v else 0x37 + v) ∨
      c.toNat = (if v < 10 then 0x30 + v else 0x57 + v)) := by
  unfold hexValue
  split_ifs <;> simp only [Option.some.injEq, false_iff] <;> omega

/-- A character is named by its code. -/
theorem getElem?_eq_some_iff_toNat {cs : HexText} {v n : Nat} (named : cs[v]?.map Char.toNat = some n) (c : Char) :
    cs[v]? = some c ↔ c.toNat = n := by
  obtain ⟨c', held, rfl⟩ := Option.map_eq_some_iff.mp named
  rw [held, Option.some.injEq, Char.toNat_inj]
  exact eq_comm

theorem upperDigits_toNat : ∀ v, v < 16 →
    "0123456789ABCDEF".toList[v]?.map Char.toNat = some (if v < 10 then 0x30 + v else 0x37 + v) := by decide

theorem lowerDigits_toNat : ∀ v, v < 16 →
    "0123456789abcdef".toList[v]?.map Char.toNat = some (if v < 10 then 0x30 + v else 0x57 + v) := by decide

/-- Settles O42: both sides say which code the character has. -/
theorem hexAlphabet : Obligations.HexAlphabet := by
  unfold Obligations.HexAlphabet
  intro c v
  rw [hexValue_eq_some_iff]
  refine and_congr_right fun hv => ?_
  rw [getElem?_eq_some_iff_toNat (upperDigits_toNat v hv), getElem?_eq_some_iff_toNat (lowerDigits_toNat v hv)]

/-! ### Text that does not decode -/

/-- What decodes is whole pairs of hex digits (R119, R121). -/
theorem digits_of_hexDecode : ∀ {cs : HexText} {bs : Bytes}, hexDecode cs = some bs →
    cs.length % 2 = 0 ∧ ∀ c ∈ cs, isHexDigit c = true
  | [], _, _ => by simp
  | [_], _, decoded => by simp [hexDecode] at decoded
  | hi :: lo :: rest, _, decoded => by
    rw [hexDecode] at decoded
    split at decoded
    case h_1 h l bs' hh hl hrest =>
      obtain ⟨even, digits⟩ := digits_of_hexDecode hrest
      exact ⟨(Nat.add_mod_right ..).trans even, by simpa [isHexDigit, hh, hl] using digits⟩
    case h_2 => cases decoded

theorem hexDecode_eq_none_iff {cs : HexText} :
    hexDecode cs = none ↔ (cs.length % 2 = 1 ∨ ∃ c ∈ cs, isHexDigit c = false) := by
  constructor
  · intro undecoded
    by_contra! good
    obtain ⟨not_odd, digits⟩ := good
    obtain ⟨bs, decoded, -⟩ := hexDecode_of_digits cs (by omega) (by simpa using digits)
    simp [decoded] at undecoded
  · intro bad
    rw [Option.eq_none_iff_forall_ne_some]
    intro bs decoded
    obtain ⟨even, digits⟩ := digits_of_hexDecode decoded
    rcases bad with odd | ⟨c, hc, not_digit⟩
    · omega
    · simp [digits c hc] at not_digit

/-- A key text of another length, or with another character, gives no key (R119). -/
theorem keyOfText_of_bad {hex : HexText} (bad : hex.length ≠ 32 ∨ ∃ c ∈ hex, isHexDigit c = false) :
    keyOfText hex = .error .keyConfigurationError := by
  by_cases hlen : hex.length = 32
  · have undecoded : hexDecode hex = none := hexDecode_eq_none_iff.mpr (.inr (bad.resolve_left (not_not.mpr hlen)))
    simp [keyOfText, undecoded]
  · exact if_pos hlen

theorem keyOfText_of_good {hex : HexText} (hlen : hex.length = 32) (digits : ∀ c ∈ hex, isHexDigit c = true) :
    ∃ k, keyOfText hex = .ok k := by
  obtain ⟨bs, decoded, -⟩ := hexDecode_of_digits hex (by omega) digits
  exact ⟨_, keyOfText_of_digits hlen decoded⟩

theorem aadOf_hexText_of_decoded {cs : HexText} {bs : Bytes} (decoded : hexDecode cs = some bs) :
    aadOf (.hexText cs) = .ok bs := by simp [aadOf, decoded]

/-- An AAD text fails with one cause, and only when it does not decode (R121). -/
theorem aadOf_hexText_eq_error_iff {cs : HexText} {c : Cause} :
    aadOf (.hexText cs) = .error c ↔
      (cs.length % 2 = 1 ∨ ∃ c ∈ cs, isHexDigit c = false) ∧ c = .aadConfigurationError := by
  rw [← hexDecode_eq_none_iff]
  cases decoded : hexDecode cs <;> simp [aadOf, decoded, eq_comm]

/-! ### The construction -/

theorem construct_of_ok {hex : HexText} {aad : AadOperand} {k : Block} {a : Bytes} (hk : keyOfText hex = .ok k)
    (ha : aadOf aad = .ok a) : construct hex aad = .ok ⟨k, a⟩ := by simp [construct, hk, ha]

theorem construct_of_badAad {hex : HexText} {aad : AadOperand} {k : Block} {c : Cause} (hk : keyOfText hex = .ok k)
    (ha : aadOf aad = .error c) : construct hex aad = .error c := by simp [construct, hk, ha]

/-- With a bad key text the cause reported is the key's, or the AAD's if the AAD is bad too (log 7). -/
theorem construct_of_badKey {hex : HexText} {c : Cause} (aad : AadOperand) (hk : keyOfText hex = .error c) :
    construct hex aad = .error c ∨ ∃ ca, aadOf aad = .error ca ∧ construct hex aad = .error ca := by
  cases ha : aadOf aad with
  | ok a => exact .inl (by simp [construct, hk, ha])
  | error ca =>
    cases reported : Config.aadErrorReported hex (aadTextOf aad) with
    | false => exact .inl (by simp [construct, hk, ha, reported])
    | true => exact .inr ⟨ca, rfl, by simp [construct, hk, ha, reported]⟩

/-- Settles O44: the key text fails, and whole bytes as AAD cannot. -/
theorem keyloadRejectsBadKeyText : Obligations.KeyloadRejectsBadKeyText := by
  unfold Obligations.KeyloadRejectsBadKeyText
  intro s hex aad bad
  have failed : construct hex (.bytes aad) = .error .keyConfigurationError := by
    rcases construct_of_badKey (.bytes aad) (keyOfText_of_bad bad) with failed | ⟨ca, ha, -⟩
    · exact failed
    · cases ha
  exact ⟨_, exec_keyload_of_failure s failed, rfl, rfl, rfl, rfl⟩

/-- `KEYLOAD` answers a next state whatever its operands: the construction alone decides what it holds (R119 to
R121). -/
theorem exec_keyload_by_construct (hex : HexText) (aad : AadOperand) (s : State) :
    ∃ t, exec (.keyload hex aad) s = .next t ∧ t.telegramValid = s.telegramValid ∧ t.inputs = s.inputs ∧
      (∀ d, construct hex aad = .ok d →
        specOf t = { specOf s with decryptors := s.decryptors ++ [d], ready := false, err := .ok } ∧
          t.result = .constructed s.decryptors.length) ∧
      (∀ c, construct hex aad = .error c →
        specOf t = { specOf s with ready := false, err := .ok } ∧ t.result = .constructionFailed c) := by
  cases h : construct hex aad with
  | ok d =>
    refine ⟨_, exec_keyload_of_construct s h, rfl, rfl, ?_, nofun⟩
    rintro _ ⟨⟩
    exact ⟨rfl, rfl⟩
  | error c =>
    refine ⟨_, exec_keyload_of_failure s h, rfl, rfl, nofun, ?_⟩
    rintro _ ⟨⟩
    exact ⟨rfl, rfl⟩

/-- Settles O45: a clause for each way the construction goes. -/
theorem keyloadDecodesAadText : Obligations.KeyloadDecodesAadText := by
  unfold Obligations.KeyloadDecodesAadText
  intro s hex cs
  obtain ⟨t, answered, window_eq, inputs_eq, constructed, failed⟩ := exec_keyload_by_construct hex (.hexText cs) s
  refine ⟨t, answered, window_eq, inputs_eq, fun hlen digits even aadDigits => ?good,
    fun hlen digits badAad => ?badAad, fun badKey => ?badKey⟩
  case good =>
    obtain ⟨k, hk⟩ := keyOfText_of_good hlen digits
    obtain ⟨bs, decoded, length_eq, bytes_eq⟩ := hexDecode_of_digits cs even aadDigits
    obtain ⟨spec_eq, result_eq⟩ := constructed _ (construct_of_ok hk (aadOf_hexText_of_decoded decoded))
    exact ⟨⟨k, bs⟩, spec_eq, result_eq, length_eq, bytes_eq⟩
  case badAad =>
    obtain ⟨k, hk⟩ := keyOfText_of_good hlen digits
    exact failed _ (construct_of_badAad hk (aadOf_hexText_eq_error_iff.mpr ⟨badAad, rfl⟩))
  case badKey =>
    rcases construct_of_badKey (.hexText cs) (keyOfText_of_bad badKey) with byKey | ⟨c, ha, byAad⟩
    · obtain ⟨spec_eq, result_eq⟩ := failed _ byKey
      exact ⟨spec_eq, .inl result_eq⟩
    · obtain ⟨badAad, rfl⟩ := aadOf_hexText_eq_error_iff.mp ha
      obtain ⟨spec_eq, result_eq⟩ := failed _ byAad
      exact ⟨spec_eq, .inr ⟨badAad, result_eq⟩⟩

end Sys2Proof.Proofs

namespace Sys2Proof.Proofs

/-! What a success of `DECRYPT` says (O48, O49, O52), and the operation on what was sealed (O51). -/

open Sys2Proof.Machine

/-- A success has passed every check, the tag's among them (R123). -/
theorem decryptWith_of_ok {d : Decryptor} {n c : Bytes} (ok : (decryptWith d n c).ok = true) :
    12 ≤ c.length ∧ n.length = 12 ∧ gcmTag d.key n d.aad (cipherPart c) = tagPart c ∧
      decryptWith d n c = ⟨gctr d.key (inc32 (preCounter n)) (cipherPart c), true, .ok⟩ := by
  rcases decryptWith_cases d n c with ⟨-, e⟩ | ⟨-, -, e⟩ | ⟨-, -, -, e⟩ | succeeded
  · simp [e] at ok
  · simp [e] at ok
  · simp [e] at ok
  · exact succeeded

/-- Settles O48: none of the three failures has a plaintext or the status `OK`, and the success has that status. -/
theorem failureHasNoPlaintext : Obligations.FailureHasNoPlaintext := by
  unfold Obligations.FailureHasNoPlaintext
  intro d n c
  rcases decryptWith_cases d n c with ⟨-, e⟩ | ⟨-, -, e⟩ | ⟨-, -, -, e⟩ | ⟨-, -, -, e⟩ <;> simp [e]

/-- The ciphertext is what stands before the 12 bytes of the tag (R122). -/
theorem cipherPart_length {c : Bytes} (long : 12 ≤ c.length) : (cipherPart c).length + 12 = c.length := by
  rw [cipherPart, List.length_take, Nat.min_eq_left (Nat.sub_le ..)]
  exact Nat.sub_add_cancel long

/-- Settles O49: the plaintext is `GCTR` of the ciphertext, which keeps the length. -/
theorem decryptionPreservesLength : Obligations.DecryptionPreservesLength := by
  unfold Obligations.DecryptionPreservesLength
  intro d n c ok
  obtain ⟨long, -, -, e⟩ := decryptWith_of_ok ok
  rw [e, gctr_length]
  exact cipherPart_length long

/-- Settles O51: `DECRYPT` returns and holds what its Decryptor opens. -/
theorem decryptOpensWhatWasSealed : Obligations.DecryptOpensWhatWasSealed := by
  unfold Obligations.DecryptOpensWhatWasSealed
  intro s h K A iv P hd nonce
  obtain ⟨t, answered, returned, held⟩ := exec_decrypt_of_decryptor iv ((gcmAe K iv A P).1 ++ (gcmAe K iv A P).2) hd
  rw [decryptWith_gcmAe K A P nonce] at returned held
  exact ⟨gcmAe_tag_length K iv A P, t, answered, returned, held⟩

/-- `GCM-AD` rejects every tag but the one of `GCM-TAG` (R151). -/
theorem gcmAd_of_wrongTag {K : Block} {iv A C T : Bytes} (wrong : gcmTag K iv A C ≠ T) : gcmAd K iv A C T = none :=
  if_neg wrong

/-- Settles O52: the tag accepted is that of `GCM-TAG`, so another one is rejected. -/
theorem changedTagIsDetected : Obligations.ChangedTagIsDetected := by
  unfold Obligations.ChangedTagIsDetected
  intro d n C T T' hT hT' changed ok
  obtain ⟨-, nonce, accepted, -⟩ := decryptWith_of_ok ok
  rw [cipherPart_append hT, tagPart_append hT] at accepted
  refine decryptWith_of_rejectedTag ?long nonce ?rejected
  case long =>
    rw [List.length_append, hT']
    exact Nat.le_add_left ..
  case rejected =>
    rw [cipherPart_append hT', tagPart_append hT']
    exact gcmAd_of_wrongTag (accepted ▸ changed.symm)

end Sys2Proof.Proofs

namespace Sys2Proof.Proofs

/-! The Decryptor's output ports and the `err` port (O58). -/

open Sys2Proof.Machine

theorem ptLenPort_of_failure {s : State} (cycle : Nat) (failed : s.lastDecrypt.ok = false) : ptLenPort cycle s = 0 := by
  simp [ptLenPort, failed]

/-- A plaintext within the capacity of R45 fits the 16 bits of `pt_len` (R128). -/
theorem ptLenPort_of_success {s : State} (cycle : Nat) (ok : s.lastDecrypt.ok = true)
    (fits : s.lastDecrypt.plaintext.length ≤ 65518) :
    (ptLenPort cycle s).toNat = s.lastDecrypt.plaintext.length := by
  rw [ptLenPort, if_pos ok, if_pos fits, BitVec.toNat_ofNat]
  exact Nat.mod_eq_of_lt (fits.trans_lt (by decide))

theorem ptRdData_of_beyond {s : State} {cycle : Nat} {idx : BitVec 16}
    (beyond : (ptLenPort cycle s).toNat ≤ idx.toNat) : ptRdData cycle idx s = 0 := if_neg (BitVec.not_lt.mpr beyond)

/-- Below `pt_len` the read port shows the plaintext (R128). -/
theorem ptRdData_of_below {s : State} {cycle : Nat} {idx : BitVec 16}
    (length_eq : (ptLenPort cycle s).toNat = s.lastDecrypt.plaintext.length)
    (below : idx.toNat < s.lastDecrypt.plaintext.length) :
    s.lastDecrypt.plaintext[idx.toNat]? = some (ptRdData cycle idx s) := by
  have shown : idx < ptLenPort cycle s := BitVec.lt_def.mpr (length_eq ▸ below)
  rw [ptRdData, if_pos shown]
  exact getElem?_eq_some_getD below _

/-- The causes that `feed` can report fit the 2 bits of `err` (R34, R164). -/
theorem errPort_toNat {s : State} (reported : s.err.isFeedResult = true) : (errPort s).toNat = s.err.code.toNat := by
  unfold errPort
  revert reported
  cases s.err <;> decide

/-- Settles O58: after a failure `pt_len` is 0, so every index is beyond it; after a success it is the length. -/
theorem plaintextPortShowsNoMore : Obligations.PlaintextPortShowsNoMore := by
  unfold Obligations.PlaintextPortShowsNoMore
  refine ⟨fun s cycle idx hs => ?_, rfl, rfl, rfl⟩
  obtain ⟨reported, -⟩ := hs.errors
  obtain ⟨-, ok_status⟩ := hs.verdict
  refine ⟨fun failed => ?failure, fun ok => ⟨ok, congrArg Cause.code (ok_status ok), fun fits => ?success⟩,
    ptRdData_of_beyond, congrArg Cause.code, congrArg Cause.code, congrArg Cause.code, congrArg Cause.code,
    errPort_toNat reported, errPort_of_err, errPort_of_err, errPort_of_err, errPort_of_err⟩
  case failure =>
    have length_zero := ptLenPort_of_failure cycle failed
    exact ⟨failed, ptRdData_of_beyond (by simp [length_zero]), length_zero⟩
  case success =>
    have length_eq := ptLenPort_of_success cycle ok fits
    exact ⟨length_eq, ptRdData_of_below length_eq⟩

end Sys2Proof.Proofs

namespace Sys2Proof.Proofs

/-! The key stream of `GCTR`, byte by byte (O50). -/

open Sys2Proof.Machine

/-- The counter block after `j` turns of `inc32`: 12 bytes stay, the last 4 are counted up modulo `2^32` (R145). -/
def countedUp (cb : Block) (j : Nat) : Block := cb.extractLsb' 32 96 ++ (cb.setWidth 32 + BitVec.ofNat 32 j)

/-- The two fields that `inc32` keeps apart make up the block. -/
theorem countedUp_zero (cb : Block) : countedUp cb 0 = cb := by
  rw [countedUp, BitVec.add_zero, BitVec.setWidth_eq_extractLsb' (by decide)]
  exact (BitVec.extractLsb'_append_extractLsb'_eq_extractLsb' (by decide)).trans BitVec.extractLsb'_eq_self

theorem inc32_high (cb : Block) : (inc32 cb).extractLsb' 32 96 = cb.extractLsb' 32 96 := by
  rw [inc32, BitVec.extractLsb'_append_eq_left]

theorem inc32_low (cb : Block) : (inc32 cb).setWidth 32 = cb.setWidth 32 + 1#32 := by
  rw [inc32, BitVec.setWidth_append_eq_right, BitVec.setWidth_eq_extractLsb' (by decide)]
  rfl

/-- Counting on from the next counter block is counting once more (R145). -/
theorem countedUp_inc32 (cb : Block) (j : Nat) : countedUp (inc32 cb) j = countedUp cb (j + 1) := by
  rw [countedUp, countedUp, inc32_high, inc32_low, BitVec.add_assoc, Nat.add_comm j 1, BitVec.ofNat_add]

theorem getElem?_blockBytes (X : Block) {i : Nat} (hi : i < 16) : (blockBytes X)[i]? = some (blockByte X i) := by
  simp [blockBytes, hi]

theorem getElem?_xorBytes {a k : Bytes} {i : Nat} {y : Byte} (hk : k[i]? = some y) :
    (xorBytes a k)[i]? = a[i]?.map (· ^^^ y) := by
  rw [xorBytes, List.getElem?_zipWith, hk]
  cases a[i]? <;> rfl

/-- Byte `i` lies in the first block, or it is byte `i - 16` of what follows from the next counter block (R146). -/
theorem getElem?_gctrFrom (K : Block) : ∀ (n : Nat) (cb : Block) (X : Bytes) (i : Nat), X.length ≤ 16 * n →
    i < X.length → (gctrFrom K n cb X)[i]? =
      X[i]?.map (· ^^^ blockByte (aes128Enc K (countedUp cb (i / 16))) (i % 16))
  | 0, _, _, _, covered, hi => absurd hi (by omega)
  | n + 1, cb, X, i, covered, hi => by
    have head_length : (xorBytes (X.take 16) (blockBytes (aes128Enc K cb))).length = min 16 X.length := by simp
    rw [gctrFrom]
    rcases Nat.lt_or_ge i 16 with first | later
    case inl =>
      rw [List.getElem?_append_left (by omega), getElem?_xorBytes (getElem?_blockBytes _ first),
        List.getElem?_take_of_lt first, Nat.div_eq_of_lt first, Nat.mod_eq_of_lt first, countedUp_zero]
    case inr =>
      have full : min 16 X.length = 16 := by omega
      have block_succ : (i - 16) / 16 + 1 = i / 16 := by omega
      have byte_same : (i - 16) % 16 = i % 16 := by omega
      rw [List.getElem?_append_right (by omega), head_length, full,
        getElem?_gctrFrom K n (inc32 cb) (X.drop 16) (i - 16) (by rw [List.length_drop]; omega)
          (by rw [List.length_drop]; omega),
        List.getElem?_drop, Nat.add_sub_cancel' later, countedUp_inc32, block_succ, byte_same]

/-- Settles O50: the rounded-up number of blocks covers the input. -/
theorem gctrAddsKeyStream : Obligations.GctrAddsKeyStream := by
  unfold Obligations.GctrAddsKeyStream
  exact fun K icb X => ⟨gctr_length K icb X, fun i hi => getElem?_gctrFrom K _ icb X i (by omega) hi⟩

end Sys2Proof.Proofs

namespace Sys2Proof.Proofs

/-! Steps that run no instruction (O25). -/

open Sys2Proof.Machine

/-- With no input waiting the machine idles (R158). -/
theorem step_of_no_input {s : State} (hd : s.state ≠ .done) (inputs_eq : s.inputs = []) : step s = .next (idle s) := by
  rw [step, fetch_nothing hd inputs_eq]

/-- A choice of `MODE` is taken at once, with the input gone (R201). -/
theorem step_of_setMode {s : State} {m : Sink} {rest : List Input} (hd : s.state ≠ .done)
    (inputs_eq : s.inputs = .setMode m :: rest) : step s = .next (setMode m (withInputs rest s)) := by
  rw [step, fetch_input hd inputs_eq, fetchInput]

/-- A failure of the Byte Source ends the run (R159). -/
theorem step_of_transportError {s : State} {rest : List Input} (hd : s.state ≠ .done)
    (inputs_eq : s.inputs = .transportError :: rest) : step s = .fault .transportError := by
  rw [step, fetch_input hd inputs_eq, fetchInput]

/-- `idle` changes the results of the invocation alone (R158). -/
theorem specOf_idle (s : State) : specOf (idle s) = { specOf s with ready := false, err := .ok } := rfl

/-- `setMode` changes `MODE` and the results of the invocation alone (R201). -/
theorem specOf_setMode (m : Sink) (s : State) :
    specOf (setMode m s) = { specOf s with mode := m, ready := false, err := .ok } := rfl

/-- Settles O25: no input idles, a choice of `MODE` is `setMode` on the inputs left, and a failed source faults. -/
theorem stepWithoutAnInstruction : Obligations.StepWithoutAnInstruction := by
  unfold Obligations.StepWithoutAnInstruction
  intro s hd
  refine ⟨fun inputs_eq => ?idles, fun m rest inputs_eq => ?choosesMode, fun _ => step_of_transportError hd⟩
  case idles =>
    exact ⟨idle s, step_of_no_input hd inputs_eq, specOf_idle s, idle_telegramValid s, inputs_eq⟩
  case choosesMode =>
    exact ⟨setMode m (withInputs rest s), step_of_setMode hd inputs_eq, specOf_setMode m _, setMode_telegramValid m _,
      setMode_inputs m _⟩

end Sys2Proof.Proofs

namespace Sys2Proof.Proofs

/-! Framing errors: what the entry of each one writes (O32) and how many bytes it takes to reach it (O35). -/

open Sys2Proof.Machine

/-! ### What a framing error writes -/

/-- The entry of the framing errors writes `state` and the results alone (R169). -/
theorem specOf_raiseFramingError (c : Cause) (s : State) :
    specOf (raiseFramingError c s) = { specOf s with state := .waitStart, ready := false, err := c } := rfl

/-- Settles O32: the step is `feed` of the byte, and of its outcomes only the three framing errors report an error. -/
theorem framingErrorWritesNothingElse : Obligations.FramingErrorWritesNothingElse := by
  unfold Obligations.FramingErrorWritesNothingElse
  intro s t b rest hd hi h error
  have fed : FeedStep b (withInputs rest s) t := step_byte hd hi h ▸ feedStep b (withInputs rest s)
  cases fed with
  | badSep82 hs hb => exact .inl ⟨hs, hb, specOf_raiseFramingError _ _⟩
  | badSep30 hs hb => exact .inr (.inl ⟨hs, hb, specOf_raiseFramingError _ _⟩)
  | lengthUnderflow hs hp hL => exact .inr (.inr ⟨hs, hL, hp, specOf_raiseFramingError _ _⟩)
  | _ => simp at error

/-! ### How many bytes a framing error takes -/

/-- An invocation that raises a framing error reports it, and no `ready` (R169). -/
theorem feedResults_of_raised {x : Byte} {c : Cause} {s t : State} (raised : feed x s = raiseFramingError c t) :
    feedResults [x] s = [(false, c)] := by
  rw [feedResults, raised]
  rfl

/-- After `n` bytes taken with no result come the results of what follows them. -/
theorem Reads.feedResults_append {as bs : Bytes} {P Q : State → Prop} {results : List (Bool × Cause)} {s : State}
    {n : Nat} (reads : Reads as P Q) (length_eq : as.length = n) (later : ∀ u, Q u → feedResults bs u = results)
    (hs : P s) : feedResults (as ++ bs) s = List.replicate n (false, .ok) ++ results := by
  obtain ⟨silent, reached⟩ := reads s hs
  rw [Proofs.feedResults_append, silent, later _ reached, length_eq]

/-- The first separator and the two bytes of the payload length, whatever they are (R92, R94). -/
theorem reads_sep82_length (N : Byte) (t : Bytes) (b1 b2 : Byte) :
    Reads [sep82, b1, b2] (At .readSep82 0 (titleFill N t)) (At .readSep30 0 (lengthFill N t [b1, b2])) :=
  (reads_sep82 N t).append ((lengthField N t).reads (next := fun xs => At .readSep30 0 (lengthFill N t xs))
    (reads_length_last N t) [b1, b2] (by simp))

theorem feedResults_of_wrong_sep82 {c : Contents} {x : Byte} {s : State} (wrong : x ≠ 0x82)
    (h : At .readSep82 0 c s) :
    feedResults [x] s = [(false, .badSep82)] :=
  feedResults_of_raised ((feed_in_readSep82 x h.state_eq).trans (if_neg wrong))

theorem feedResults_of_wrong_sep30 {c : Contents} {x : Byte} {s : State} (wrong : x ≠ 0x30)
    (h : At .readSep30 0 c s) :
    feedResults [x] s = [(false, .badSep30)] :=
  feedResults_of_raised ((feed_in_readSep30 x h.state_eq).trans (if_neg wrong))

/-- The last byte of the frame counter under a declared length below 17 (R79, R97). -/
theorem feedResults_of_underflow {N : Byte} {L : BitVec 16} {t xs : Bytes} {x : Byte} {s : State}
    (short : L.toNat < 17) (h : At .readFrameCounter 1 (counterFill N L t xs) s) :
    feedResults [x] s = [(false, .lengthUnderflow)] := by
  have declared : s.declaredLength = L := congrArg Contents.declaredLength h.contents_eq
  have reached : s.pos + 1 = s.target := (h.last_iff (by decide)).mpr rfl
  have sized : rfcAppendNext x s = sizePayload (appendCounter x (countByte (giveNothing s))) :=
    rfcAppendNext_last x reached
  exact feedResults_of_raised
    ((feed_in_readFrameCounter x h.state_eq).trans (sized.trans (if_pos (declared ▸ short))))

/-- A frame up to the last byte of its frame counter, with a free declared length (R85). -/
theorem reads_to_counter_last {t init : Bytes} (ht : t.length ≤ 255) (len : Nat) (hinit : init.length = 3) :
    Reads ([startMarker, BitVec.ofNat 8 t.length] ++ t ++ [sep82, hiByte len, loByte len, sep30] ++ init)
      (fun s => s.state = .waitStart)
      (At .readFrameCounter 1 (counterFill (BitVec.ofNat 8 t.length) (declared len) t init)) := by
  have counter := (counterField (BitVec.ofNat 8 t.length) (declared len) t).reads_more 0 init [] (by omega)
  rw [hinit] at counter
  exact ((reads_header ht).append (reads_separators _ t len)).append counter

/-- Settles O35: the bytes before the offending one are taken with no result, and lead to where it is the error. -/
theorem abortConsumesCountedBytes : Obligations.AbortConsumesCountedBytes := by
  unfold Obligations.AbortConsumesCountedBytes
  intro s t hs ht
  refine ⟨fun x wrong => ?sep82, fun x b1 b2 wrong => ?sep30, fun len f short hf => ?underflow⟩
  case sep82 =>
    exact (reads_header ht).feedResults_append (by simp) (fun _ => feedResults_of_wrong_sep82 wrong) hs
  case sep30 =>
    have results := ((reads_header ht).append (reads_sep82_length _ t b1 b2)).feedResults_append
      (n := t.length + 5) (by simp) (fun _ => feedResults_of_wrong_sep30 wrong) hs
    rwa [List.append_assoc] at results
  case underflow =>
    obtain ⟨init, last, rfl⟩ := (List.eq_nil_or_concat' f).resolve_left (by rintro rfl; cases hf)
    have init_length : init.length = 3 := by simpa using hf
    have short_declared : (declared len).toNat < 17 := by rwa [declared_toNat (by omega)]
    have results := (reads_to_counter_last ht len init_length).feedResults_append (n := t.length + 9)
      (by simp [init_length]) (fun _ => feedResults_of_underflow (x := last) short_declared) hs
    simpa [frameWithLength] using results

end Sys2Proof.Proofs
